-- ==== Sys2Proof/Word.lean ====
section
/-! DEFINITION. The two word widths of the machine (00_scope.md R4): the 8-bit byte, which is the unit of
memory and the width of A, X, Y, S, and the 16-bit address, which is the width of PC. -/

namespace Sys2Proof

/-- A byte: the unit of memory and the width of A, X, Y and S (R4, R6). -/
abbrev Byte := BitVec 8

/-- A 16-bit address; also the width of PC (R4, R50). -/
abbrev Addr := BitVec 16

end Sys2Proof
end

