-- ==== Sys2Proof/Config.lean ====
section
/-! DEFINITION. What the spec leaves to the platform or leaves open: the parameters of 00_scope.md R5, and the
free values ("draws", 00_scope.md R15) as opaque constants that nothing can evaluate. -/

namespace Sys2Proof

/-- What answers at an address (R52, R53, 92_eei_decisions.md D12). -/
inductive RegionKind where
  /-- Reads return the last byte written. -/
  | ram
  /-- Reads return the fixed content; writes have no effect. -/
  | rom
  /-- Reads return any byte and writes go to the device; `readEffects` says whether a read can have a side
  effect in the device (R52, R58). -/
  | device (readEffects : Bool)
  /-- Reads return any byte; writes have no effect. -/
  | unmapped
deriving DecidableEq, Repr

/-- One entry of the platform's `MemMap`: the addresses `lo` to `hi`, both included. -/
structure Region where
  lo : Nat
  hi : Nat
  kind : RegionKind
deriving DecidableEq, Repr

/-- What the parameter `UnstableOps` has a model do with one unstable undocumented opcode (R5, R230, R251,
92_eei_decisions.md D14; log 10). -/
inductive UnstableUse where
  /-- Execute the rule that 49_undocumented.md gives, as R230 says. -/
  | rule
  /-- Execute it with a draw in place of the one value that real parts are known to compute differently. -/
  | draw
  /-- Refuse it. -/
  | refuse
deriving DecidableEq, Repr

/-- The parameter `UnstableOps` (R5): one use for each unstable undocumented opcode. -/
structure UnstableOps where
  /-- XAA (8B). Its rule is a draw already (R251), so `rule` and `draw` are the same. -/
  xaa : UnstableUse
  /-- LAX #d8 (AB): the draw is the byte loaded (93_implementation_defined.md U2). -/
  laxImm : UnstableUse
  /-- SHA (a8),Y (93): the draw is the byte stored (93_implementation_defined.md U8), as for the next four. -/
  shaIndY : UnstableUse
  /-- SHA a16,Y (9F). -/
  shaAbsY : UnstableUse
  /-- SHX a16,Y (9E). -/
  shxAbsY : UnstableUse
  /-- SHY a16,X (9C). -/
  shyAbsX : UnstableUse
  /-- SHS a16,Y (9B). -/
  shsAbsY : UnstableUse
  /-- ARR (6B) with D = 1 only: the draw is the accumulator (93_implementation_defined.md U9). -/
  arrDecimal : UnstableUse
deriving DecidableEq, Repr

/-- Every unstable opcode executes its rule: R230's treatment of class fragile, and R251 for XAA. -/
def UnstableOps.byRule : UnstableOps where
  xaa := .rule
  laxImm := .rule
  shaIndY := .rule
  shaAbsY := .rule
  shxAbsY := .rule
  shyAbsX := .rule
  shsAbsY := .rule
  arrDecimal := .rule

/-- The parameters of R5 that are plain data. DESIGN CHOICE (log 4): they stand in State, and no step changes
them, so that a claim over all states is a claim over all platforms. -/
structure Platform where
  /-- `MemMap`: the first region that holds an address decides; an address in no region is RAM. -/
  memMap : List Region
  /-- `SO_USED`: whether the platform drives the set-overflow pin. -/
  soUsed : Bool
  /-- `UnstableOps`: rule, draw or refuse, for each unstable undocumented opcode. -/
  unstable : UnstableOps
deriving DecidableEq, Repr

/-- What a free value is drawn for. One step may draw several values; each has its own name here, so that two
draws of one step are unrelated, and the counter `State.draws` keeps the draws of two steps apart (log 6). -/
inductive Draw where
  /-- The opcode byte, read where no memory answers. -/
  | opcode
  /-- The first operand byte, read where no memory answers. -/
  | operand1
  /-- The second operand byte, read where no memory answers. -/
  | operand2
  /-- The low byte of a pointer, read where no memory answers. -/
  | pointerLow
  /-- The high byte of a pointer, read where no memory answers. -/
  | pointerHigh
  /-- The operand at the effective address, read where no memory answers. -/
  | data
  /-- The low byte of a vector, read where no memory answers. -/
  | vectorLow
  /-- The high byte of a vector, read where no memory answers. -/
  | vectorHigh
  /-- The first byte pulled, read where no memory answers. -/
  | pull1
  /-- The second byte pulled, read where no memory answers. -/
  | pull2
  /-- The third byte pulled, read where no memory answers. -/
  | pull3
  /-- The result of XAA (R251). -/
  | xaa
  /-- The value of an unstable opcode for which `UnstableOps` says draw (R5, D14). -/
  | unstable
  /-- The high byte of the PC of a halted CPU (R236). -/
  | haltedPcHigh
  /-- The low byte of the PC of a halted CPU (R236). -/
  | haltedPcLow
  /-- A after the reset sequence (R290, `ResetDraw`). -/
  | resetA
  /-- X after the reset sequence. -/
  | resetX
  /-- Y after the reset sequence. -/
  | resetY
  /-- S after the reset sequence. -/
  | resetS
  /-- N after the reset sequence. -/
  | resetN
  /-- V after the reset sequence. -/
  | resetV
  /-- D after the reset sequence. -/
  | resetD
  /-- Z after the reset sequence. -/
  | resetZ
  /-- C after the reset sequence. -/
  | resetC
  /-- Which I the IRQ test uses at the boundary after CLI, SEI or PLP (R270). -/
  | irqLatitude
  /-- Bit 4 of the pushed P when an interrupt collides with BRK (R271). -/
  | collisionB
deriving DecidableEq, Repr

/-- A free byte: any value, a fresh one for each step's `State.draws` and each use (log 6). -/
opaque Config.freeByte : Nat → Draw → Byte

/-- A free bit: any value, a fresh one for each step's `State.draws` and each use (log 6). -/
opaque Config.freeBit : Nat → Draw → Bool

/-- What an addition or subtraction gives: the byte and the four flags it writes (R120, R121). -/
structure AluResult where
  value : Byte
  n : Bool
  v : Bool
  z : Bool
  c : Bool
deriving DecidableEq, Repr, Inhabited

/-- `DecAdc` of the parameter `DecimalALU` (R5, R121, D13), where the spec leaves it open: all of its result on
operands that are not valid BCD, and N, V, Z on all operands (log 9). -/
opaque Config.decAdcOpen : Byte → Byte → Bool → AluResult

/-- `DecSbc` of the parameter `DecimalALU` (R5, R121, D13), where the spec leaves it open (log 9). -/
opaque Config.decSbcOpen : Byte → Byte → Bool → AluResult

end Sys2Proof
end

