-- ==== Sys2Proof/Syntax.lean ====
section
/-! DEFINITION. The instruction set as syntax: the addressing modes with their operand bytes (30_encoding.md R81,
40_addressing_modes.md R100), the 77 mnemonics, and `Instr` with one constructor for each of the 256 rows of
spec/opcode_table.json (30_encoding.md R88). -/

namespace Sys2Proof

/-- The modes that yield an effective address (R104 to R111), with their operand bytes. -/
inductive MemMode where
  /-- `a8`, Zero Page (R104). -/
  | zp (b1 : Byte)
  /-- `a8,X`, X-Indexed Zero Page (R105). -/
  | zpX (b1 : Byte)
  /-- `a8,Y`, Y-Indexed Zero Page (R106). -/
  | zpY (b1 : Byte)
  /-- `(a8,X)`, X-Indexed Zero Page Indirect (R107). -/
  | indX (b1 : Byte)
  /-- `(a8),Y`, Zero Page Indirect Y-Indexed (R108). -/
  | indY (b1 : Byte)
  /-- `a16`, Absolute (R109). -/
  | abs (b1 b2 : Byte)
  /-- `a16,X`, X-Indexed Absolute (R110). -/
  | absX (b1 b2 : Byte)
  /-- `a16,Y`, Y-Indexed Absolute (R111). -/
  | absY (b1 b2 : Byte)
deriving DecidableEq, Repr

/-- The thirteen addressing modes (R81, R100), with their operand bytes. -/
inductive Operand where
  /-- `-`, Implied (R101). -/
  | implied
  /-- `A`, Accumulator (R102). -/
  | accumulator
  /-- `#d8`, Immediate (R103). -/
  | immediate (b1 : Byte)
  /-- One of the modes with an effective address. -/
  | memory (m : MemMode)
  /-- `(a16)`, Absolute Indirect (R112). -/
  | indirect (b1 b2 : Byte)
  /-- `r8`, Relative (R113). -/
  | relative (b1 : Byte)
deriving DecidableEq, Repr

/-- The operand of an instruction of class read (R114): the immediate byte or a byte of memory. -/
inductive Source where
  | immediate (b1 : Byte)
  | memory (m : MemMode)
deriving DecidableEq, Repr

/-- The mnemonics of the opcode map (R88); `nopUndoc` and `sbcUndoc` are the map's `*NOP` and `*SBC`. -/
inductive Mnemonic where
  | adc | and | asl | bcc | bcs | beq | bit | bmi | bne | bpl | brk | bvc | bvs | clc
  | cld | cli | clv | cmp | cpx | cpy | dec | dex | dey | eor | inc | inx | iny | jmp
  | jsr | lda | ldx | ldy | lsr | nop | ora | pha | php | pla | plp | rol | ror | rti
  | rts | sbc | sec | sed | sei | sta | stx | sty | tax | tay | tsx | txa | txs | tya
  | anc | arr | asr | dcp | isc | jam | las | lax | nopUndoc | rla | rra | sax | sbcUndoc | sbx
  | sha | shs | shx | shy | slo | sre | xaa
deriving DecidableEq, Repr

/-- The instructions: one constructor for each opcode byte, named after the mnemonic and the addressing mode of
its row. Where several opcode bytes share a mnemonic and a mode, and for the undocumented `*NOP` and `*SBC`, the
opcode byte is part of the name, so that no bit of an encoding is lost (R91). `b1` and `b2` are the bytes after the
opcode, in memory order (R80). The rows with operand bytes stand first, each group in opcode order. -/
inductive Instr where
  /-- 01: ORA (a8,X) (R131). -/
  | oraIndX (b1 : Byte)
  /-- 03: SLO (a8,X) (R249). -/
  | sloIndX (b1 : Byte)
  /-- 04: *NOP a8 (R239). -/
  | nopZp04 (b1 : Byte)
  /-- 05: ORA a8 (R131). -/
  | oraZp (b1 : Byte)
  /-- 06: ASL a8 (R141). -/
  | aslZp (b1 : Byte)
  /-- 07: SLO a8 (R249). -/
  | sloZp (b1 : Byte)
  /-- 09: ORA #d8 (R131). -/
  | oraImm (b1 : Byte)
  /-- 0B: ANC #d8 (R231). -/
  | ancImm0B (b1 : Byte)
  /-- 0C: *NOP a16 (R239). -/
  | nopAbs0C (b1 b2 : Byte)
  /-- 0D: ORA a16 (R131). -/
  | oraAbs (b1 b2 : Byte)
  /-- 0E: ASL a16 (R141). -/
  | aslAbs (b1 b2 : Byte)
  /-- 0F: SLO a16 (R249). -/
  | sloAbs (b1 b2 : Byte)
  /-- 10: BPL r8 (R156). -/
  | bpl (b1 : Byte)
  /-- 11: ORA (a8),Y (R131). -/
  | oraIndY (b1 : Byte)
  /-- 13: SLO (a8),Y (R249). -/
  | sloIndY (b1 : Byte)
  /-- 14: *NOP a8,X (R239). -/
  | nopZpX14 (b1 : Byte)
  /-- 15: ORA a8,X (R131). -/
  | oraZpX (b1 : Byte)
  /-- 16: ASL a8,X (R141). -/
  | aslZpX (b1 : Byte)
  /-- 17: SLO a8,X (R249). -/
  | sloZpX (b1 : Byte)
  /-- 19: ORA a16,Y (R131). -/
  | oraAbsY (b1 b2 : Byte)
  /-- 1B: SLO a16,Y (R249). -/
  | sloAbsY (b1 b2 : Byte)
  /-- 1C: *NOP a16,X (R239). -/
  | nopAbsX1C (b1 b2 : Byte)
  /-- 1D: ORA a16,X (R131). -/
  | oraAbsX (b1 b2 : Byte)
  /-- 1E: ASL a16,X (R141). -/
  | aslAbsX (b1 b2 : Byte)
  /-- 1F: SLO a16,X (R249). -/
  | sloAbsX (b1 b2 : Byte)
  /-- 20: JSR a16 (R172). -/
  | jsrAbs (b1 b2 : Byte)
  /-- 21: AND (a8,X) (R130). -/
  | andIndX (b1 : Byte)
  /-- 23: RLA (a8,X) (R240). -/
  | rlaIndX (b1 : Byte)
  /-- 24: BIT a8 (R133). -/
  | bitZp (b1 : Byte)
  /-- 25: AND a8 (R130). -/
  | andZp (b1 : Byte)
  /-- 26: ROL a8 (R143). -/
  | rolZp (b1 : Byte)
  /-- 27: RLA a8 (R240). -/
  | rlaZp (b1 : Byte)
  /-- 29: AND #d8 (R130). -/
  | andImm (b1 : Byte)
  /-- 2B: ANC #d8 (R231). -/
  | ancImm2B (b1 : Byte)
  /-- 2C: BIT a16 (R133). -/
  | bitAbs (b1 b2 : Byte)
  /-- 2D: AND a16 (R130). -/
  | andAbs (b1 b2 : Byte)
  /-- 2E: ROL a16 (R143). -/
  | rolAbs (b1 b2 : Byte)
  /-- 2F: RLA a16 (R240). -/
  | rlaAbs (b1 b2 : Byte)
  /-- 30: BMI r8 (R154). -/
  | bmi (b1 : Byte)
  /-- 31: AND (a8),Y (R130). -/
  | andIndY (b1 : Byte)
  /-- 33: RLA (a8),Y (R240). -/
  | rlaIndY (b1 : Byte)
  /-- 34: *NOP a8,X (R239). -/
  | nopZpX34 (b1 : Byte)
  /-- 35: AND a8,X (R130). -/
  | andZpX (b1 : Byte)
  /-- 36: ROL a8,X (R143). -/
  | rolZpX (b1 : Byte)
  /-- 37: RLA a8,X (R240). -/
  | rlaZpX (b1 : Byte)
  /-- 39: AND a16,Y (R130). -/
  | andAbsY (b1 b2 : Byte)
  /-- 3B: RLA a16,Y (R240). -/
  | rlaAbsY (b1 b2 : Byte)
  /-- 3C: *NOP a16,X (R239). -/
  | nopAbsX3C (b1 b2 : Byte)
  /-- 3D: AND a16,X (R130). -/
  | andAbsX (b1 b2 : Byte)
  /-- 3E: ROL a16,X (R143). -/
  | rolAbsX (b1 b2 : Byte)
  /-- 3F: RLA a16,X (R240). -/
  | rlaAbsX (b1 b2 : Byte)
  /-- 41: EOR (a8,X) (R132). -/
  | eorIndX (b1 : Byte)
  /-- 43: SRE (a8,X) (R250). -/
  | sreIndX (b1 : Byte)
  /-- 44: *NOP a8 (R239). -/
  | nopZp44 (b1 : Byte)
  /-- 45: EOR a8 (R132). -/
  | eorZp (b1 : Byte)
  /-- 46: LSR a8 (R142). -/
  | lsrZp (b1 : Byte)
  /-- 47: SRE a8 (R250). -/
  | sreZp (b1 : Byte)
  /-- 49: EOR #d8 (R132). -/
  | eorImm (b1 : Byte)
  /-- 4B: ASR #d8 (R233). -/
  | asrImm (b1 : Byte)
  /-- 4C: JMP a16 (R171). -/
  | jmpAbs (b1 b2 : Byte)
  /-- 4D: EOR a16 (R132). -/
  | eorAbs (b1 b2 : Byte)
  /-- 4E: LSR a16 (R142). -/
  | lsrAbs (b1 b2 : Byte)
  /-- 4F: SRE a16 (R250). -/
  | sreAbs (b1 b2 : Byte)
  /-- 50: BVC r8 (R157). -/
  | bvc (b1 : Byte)
  /-- 51: EOR (a8),Y (R132). -/
  | eorIndY (b1 : Byte)
  /-- 53: SRE (a8),Y (R250). -/
  | sreIndY (b1 : Byte)
  /-- 54: *NOP a8,X (R239). -/
  | nopZpX54 (b1 : Byte)
  /-- 55: EOR a8,X (R132). -/
  | eorZpX (b1 : Byte)
  /-- 56: LSR a8,X (R142). -/
  | lsrZpX (b1 : Byte)
  /-- 57: SRE a8,X (R250). -/
  | sreZpX (b1 : Byte)
  /-- 59: EOR a16,Y (R132). -/
  | eorAbsY (b1 b2 : Byte)
  /-- 5B: SRE a16,Y (R250). -/
  | sreAbsY (b1 b2 : Byte)
  /-- 5C: *NOP a16,X (R239). -/
  | nopAbsX5C (b1 b2 : Byte)
  /-- 5D: EOR a16,X (R132). -/
  | eorAbsX (b1 b2 : Byte)
  /-- 5E: LSR a16,X (R142). -/
  | lsrAbsX (b1 b2 : Byte)
  /-- 5F: SRE a16,X (R250). -/
  | sreAbsX (b1 b2 : Byte)
  /-- 61: ADC (a8,X) (R123). -/
  | adcIndX (b1 : Byte)
  /-- 63: RRA (a8,X) (R241). -/
  | rraIndX (b1 : Byte)
  /-- 64: *NOP a8 (R239). -/
  | nopZp64 (b1 : Byte)
  /-- 65: ADC a8 (R123). -/
  | adcZp (b1 : Byte)
  /-- 66: ROR a8 (R144). -/
  | rorZp (b1 : Byte)
  /-- 67: RRA a8 (R241). -/
  | rraZp (b1 : Byte)
  /-- 69: ADC #d8 (R123). -/
  | adcImm (b1 : Byte)
  /-- 6B: ARR #d8 (R232). -/
  | arrImm (b1 : Byte)
  /-- 6C: JMP (a16) (R171). -/
  | jmpInd (b1 b2 : Byte)
  /-- 6D: ADC a16 (R123). -/
  | adcAbs (b1 b2 : Byte)
  /-- 6E: ROR a16 (R144). -/
  | rorAbs (b1 b2 : Byte)
  /-- 6F: RRA a16 (R241). -/
  | rraAbs (b1 b2 : Byte)
  /-- 70: BVS r8 (R158). -/
  | bvs (b1 : Byte)
  /-- 71: ADC (a8),Y (R123). -/
  | adcIndY (b1 : Byte)
  /-- 73: RRA (a8),Y (R241). -/
  | rraIndY (b1 : Byte)
  /-- 74: *NOP a8,X (R239). -/
  | nopZpX74 (b1 : Byte)
  /-- 75: ADC a8,X (R123). -/
  | adcZpX (b1 : Byte)
  /-- 76: ROR a8,X (R144). -/
  | rorZpX (b1 : Byte)
  /-- 77: RRA a8,X (R241). -/
  | rraZpX (b1 : Byte)
  /-- 79: ADC a16,Y (R123). -/
  | adcAbsY (b1 b2 : Byte)
  /-- 7B: RRA a16,Y (R241). -/
  | rraAbsY (b1 b2 : Byte)
  /-- 7C: *NOP a16,X (R239). -/
  | nopAbsX7C (b1 b2 : Byte)
  /-- 7D: ADC a16,X (R123). -/
  | adcAbsX (b1 b2 : Byte)
  /-- 7E: ROR a16,X (R144). -/
  | rorAbsX (b1 b2 : Byte)
  /-- 7F: RRA a16,X (R241). -/
  | rraAbsX (b1 b2 : Byte)
  /-- 80: *NOP #d8 (R239). -/
  | nopImm80 (b1 : Byte)
  /-- 81: STA (a8,X) (R203). -/
  | staIndX (b1 : Byte)
  /-- 82: *NOP #d8 (R239). -/
  | nopImm82 (b1 : Byte)
  /-- 83: SAX (a8,X) (R242). -/
  | saxIndX (b1 : Byte)
  /-- 84: STY a8 (R205). -/
  | styZp (b1 : Byte)
  /-- 85: STA a8 (R203). -/
  | staZp (b1 : Byte)
  /-- 86: STX a8 (R204). -/
  | stxZp (b1 : Byte)
  /-- 87: SAX a8 (R242). -/
  | saxZp (b1 : Byte)
  /-- 89: *NOP #d8 (R239). -/
  | nopImm89 (b1 : Byte)
  /-- 8B: XAA #d8 (R251). -/
  | xaaImm (b1 : Byte)
  /-- 8C: STY a16 (R205). -/
  | styAbs (b1 b2 : Byte)
  /-- 8D: STA a16 (R203). -/
  | staAbs (b1 b2 : Byte)
  /-- 8E: STX a16 (R204). -/
  | stxAbs (b1 b2 : Byte)
  /-- 8F: SAX a16 (R242). -/
  | saxAbs (b1 b2 : Byte)
  /-- 90: BCC r8 (R151). -/
  | bcc (b1 : Byte)
  /-- 91: STA (a8),Y (R203). -/
  | staIndY (b1 : Byte)
  /-- 93: SHA (a8),Y (R245). -/
  | shaIndY (b1 : Byte)
  /-- 94: STY a8,X (R205). -/
  | styZpX (b1 : Byte)
  /-- 95: STA a8,X (R203). -/
  | staZpX (b1 : Byte)
  /-- 96: STX a8,Y (R204). -/
  | stxZpY (b1 : Byte)
  /-- 97: SAX a8,Y (R242). -/
  | saxZpY (b1 : Byte)
  /-- 99: STA a16,Y (R203). -/
  | staAbsY (b1 b2 : Byte)
  /-- 9B: SHS a16,Y (R246). -/
  | shsAbsY (b1 b2 : Byte)
  /-- 9C: SHY a16,X (R248). -/
  | shyAbsX (b1 b2 : Byte)
  /-- 9D: STA a16,X (R203). -/
  | staAbsX (b1 b2 : Byte)
  /-- 9E: SHX a16,Y (R247). -/
  | shxAbsY (b1 b2 : Byte)
  /-- 9F: SHA a16,Y (R245). -/
  | shaAbsY (b1 b2 : Byte)
  /-- A0: LDY #d8 (R202). -/
  | ldyImm (b1 : Byte)
  /-- A1: LDA (a8,X) (R200). -/
  | ldaIndX (b1 : Byte)
  /-- A2: LDX #d8 (R201). -/
  | ldxImm (b1 : Byte)
  /-- A3: LAX (a8,X) (R238). -/
  | laxIndX (b1 : Byte)
  /-- A4: LDY a8 (R202). -/
  | ldyZp (b1 : Byte)
  /-- A5: LDA a8 (R200). -/
  | ldaZp (b1 : Byte)
  /-- A6: LDX a8 (R201). -/
  | ldxZp (b1 : Byte)
  /-- A7: LAX a8 (R238). -/
  | laxZp (b1 : Byte)
  /-- A9: LDA #d8 (R200). -/
  | ldaImm (b1 : Byte)
  /-- AB: LAX #d8 (R238). -/
  | laxImm (b1 : Byte)
  /-- AC: LDY a16 (R202). -/
  | ldyAbs (b1 b2 : Byte)
  /-- AD: LDA a16 (R200). -/
  | ldaAbs (b1 b2 : Byte)
  /-- AE: LDX a16 (R201). -/
  | ldxAbs (b1 b2 : Byte)
  /-- AF: LAX a16 (R238). -/
  | laxAbs (b1 b2 : Byte)
  /-- B0: BCS r8 (R152). -/
  | bcs (b1 : Byte)
  /-- B1: LDA (a8),Y (R200). -/
  | ldaIndY (b1 : Byte)
  /-- B3: LAX (a8),Y (R238). -/
  | laxIndY (b1 : Byte)
  /-- B4: LDY a8,X (R202). -/
  | ldyZpX (b1 : Byte)
  /-- B5: LDA a8,X (R200). -/
  | ldaZpX (b1 : Byte)
  /-- B6: LDX a8,Y (R201). -/
  | ldxZpY (b1 : Byte)
  /-- B7: LAX a8,Y (R238). -/
  | laxZpY (b1 : Byte)
  /-- B9: LDA a16,Y (R200). -/
  | ldaAbsY (b1 b2 : Byte)
  /-- BB: LAS a16,Y (R237). -/
  | lasAbsY (b1 b2 : Byte)
  /-- BC: LDY a16,X (R202). -/
  | ldyAbsX (b1 b2 : Byte)
  /-- BD: LDA a16,X (R200). -/
  | ldaAbsX (b1 b2 : Byte)
  /-- BE: LDX a16,Y (R201). -/
  | ldxAbsY (b1 b2 : Byte)
  /-- BF: LAX a16,Y (R238). -/
  | laxAbsY (b1 b2 : Byte)
  /-- C0: CPY #d8 (R127). -/
  | cpyImm (b1 : Byte)
  /-- C1: CMP (a8,X) (R125). -/
  | cmpIndX (b1 : Byte)
  /-- C2: *NOP #d8 (R239). -/
  | nopImmC2 (b1 : Byte)
  /-- C3: DCP (a8,X) (R234). -/
  | dcpIndX (b1 : Byte)
  /-- C4: CPY a8 (R127). -/
  | cpyZp (b1 : Byte)
  /-- C5: CMP a8 (R125). -/
  | cmpZp (b1 : Byte)
  /-- C6: DEC a8 (R190). -/
  | decZp (b1 : Byte)
  /-- C7: DCP a8 (R234). -/
  | dcpZp (b1 : Byte)
  /-- C9: CMP #d8 (R125). -/
  | cmpImm (b1 : Byte)
  /-- CB: SBX #d8 (R244). -/
  | sbxImm (b1 : Byte)
  /-- CC: CPY a16 (R127). -/
  | cpyAbs (b1 b2 : Byte)
  /-- CD: CMP a16 (R125). -/
  | cmpAbs (b1 b2 : Byte)
  /-- CE: DEC a16 (R190). -/
  | decAbs (b1 b2 : Byte)
  /-- CF: DCP a16 (R234). -/
  | dcpAbs (b1 b2 : Byte)
  /-- D0: BNE r8 (R155). -/
  | bne (b1 : Byte)
  /-- D1: CMP (a8),Y (R125). -/
  | cmpIndY (b1 : Byte)
  /-- D3: DCP (a8),Y (R234). -/
  | dcpIndY (b1 : Byte)
  /-- D4: *NOP a8,X (R239). -/
  | nopZpXD4 (b1 : Byte)
  /-- D5: CMP a8,X (R125). -/
  | cmpZpX (b1 : Byte)
  /-- D6: DEC a8,X (R190). -/
  | decZpX (b1 : Byte)
  /-- D7: DCP a8,X (R234). -/
  | dcpZpX (b1 : Byte)
  /-- D9: CMP a16,Y (R125). -/
  | cmpAbsY (b1 b2 : Byte)
  /-- DB: DCP a16,Y (R234). -/
  | dcpAbsY (b1 b2 : Byte)
  /-- DC: *NOP a16,X (R239). -/
  | nopAbsXDC (b1 b2 : Byte)
  /-- DD: CMP a16,X (R125). -/
  | cmpAbsX (b1 b2 : Byte)
  /-- DE: DEC a16,X (R190). -/
  | decAbsX (b1 b2 : Byte)
  /-- DF: DCP a16,X (R234). -/
  | dcpAbsX (b1 b2 : Byte)
  /-- E0: CPX #d8 (R126). -/
  | cpxImm (b1 : Byte)
  /-- E1: SBC (a8,X) (R124). -/
  | sbcIndX (b1 : Byte)
  /-- E2: *NOP #d8 (R239). -/
  | nopImmE2 (b1 : Byte)
  /-- E3: ISC (a8,X) (R235). -/
  | iscIndX (b1 : Byte)
  /-- E4: CPX a8 (R126). -/
  | cpxZp (b1 : Byte)
  /-- E5: SBC a8 (R124). -/
  | sbcZp (b1 : Byte)
  /-- E6: INC a8 (R193). -/
  | incZp (b1 : Byte)
  /-- E7: ISC a8 (R235). -/
  | iscZp (b1 : Byte)
  /-- E9: SBC #d8 (R124). -/
  | sbcImm (b1 : Byte)
  /-- EB: *SBC #d8 (R243). -/
  | sbcImmEB (b1 : Byte)
  /-- EC: CPX a16 (R126). -/
  | cpxAbs (b1 b2 : Byte)
  /-- ED: SBC a16 (R124). -/
  | sbcAbs (b1 b2 : Byte)
  /-- EE: INC a16 (R193). -/
  | incAbs (b1 b2 : Byte)
  /-- EF: ISC a16 (R235). -/
  | iscAbs (b1 b2 : Byte)
  /-- F0: BEQ r8 (R153). -/
  | beq (b1 : Byte)
  /-- F1: SBC (a8),Y (R124). -/
  | sbcIndY (b1 : Byte)
  /-- F3: ISC (a8),Y (R235). -/
  | iscIndY (b1 : Byte)
  /-- F4: *NOP a8,X (R239). -/
  | nopZpXF4 (b1 : Byte)
  /-- F5: SBC a8,X (R124). -/
  | sbcZpX (b1 : Byte)
  /-- F6: INC a8,X (R193). -/
  | incZpX (b1 : Byte)
  /-- F7: ISC a8,X (R235). -/
  | iscZpX (b1 : Byte)
  /-- F9: SBC a16,Y (R124). -/
  | sbcAbsY (b1 b2 : Byte)
  /-- FB: ISC a16,Y (R235). -/
  | iscAbsY (b1 b2 : Byte)
  /-- FC: *NOP a16,X (R239). -/
  | nopAbsXFC (b1 b2 : Byte)
  /-- FD: SBC a16,X (R124). -/
  | sbcAbsX (b1 b2 : Byte)
  /-- FE: INC a16,X (R193). -/
  | incAbsX (b1 b2 : Byte)
  /-- FF: ISC a16,X (R235). -/
  | iscAbsX (b1 b2 : Byte)
  /-- 00: BRK implied (R170). -/
  | brk
  /-- 02: JAM implied (R236). -/
  | jam02
  /-- 08: PHP implied (R207). -/
  | php
  /-- 0A: ASL A (R141). -/
  | aslA
  /-- 12: JAM implied (R236). -/
  | jam12
  /-- 18: CLC implied (R180). -/
  | clc
  /-- 1A: *NOP implied (R239). -/
  | nop1A
  /-- 22: JAM implied (R236). -/
  | jam22
  /-- 28: PLP implied (R209). -/
  | plp
  /-- 2A: ROL A (R143). -/
  | rolA
  /-- 32: JAM implied (R236). -/
  | jam32
  /-- 38: SEC implied (R184). -/
  | sec
  /-- 3A: *NOP implied (R239). -/
  | nop3A
  /-- 40: RTI implied (R173). -/
  | rti
  /-- 42: JAM implied (R236). -/
  | jam42
  /-- 48: PHA implied (R206). -/
  | pha
  /-- 4A: LSR A (R142). -/
  | lsrA
  /-- 52: JAM implied (R236). -/
  | jam52
  /-- 58: CLI implied (R182). -/
  | cli
  /-- 5A: *NOP implied (R239). -/
  | nop5A
  /-- 60: RTS implied (R174). -/
  | rts
  /-- 62: JAM implied (R236). -/
  | jam62
  /-- 68: PLA implied (R208). -/
  | pla
  /-- 6A: ROR A (R144). -/
  | rorA
  /-- 72: JAM implied (R236). -/
  | jam72
  /-- 78: SEI implied (R186). -/
  | sei
  /-- 7A: *NOP implied (R239). -/
  | nop7A
  /-- 88: DEY implied (R192). -/
  | dey
  /-- 8A: TXA implied (R213). -/
  | txa
  /-- 92: JAM implied (R236). -/
  | jam92
  /-- 98: TYA implied (R215). -/
  | tya
  /-- 9A: TXS implied (R214). -/
  | txs
  /-- A8: TAY implied (R211). -/
  | tay
  /-- AA: TAX implied (R210). -/
  | tax
  /-- B2: JAM implied (R236). -/
  | jamB2
  /-- B8: CLV implied (R183). -/
  | clv
  /-- BA: TSX implied (R212). -/
  | tsx
  /-- C8: INY implied (R195). -/
  | iny
  /-- CA: DEX implied (R191). -/
  | dex
  /-- D2: JAM implied (R236). -/
  | jamD2
  /-- D8: CLD implied (R181). -/
  | cld
  /-- DA: *NOP implied (R239). -/
  | nopDA
  /-- E8: INX implied (R194). -/
  | inx
  /-- EA: NOP implied (R187). -/
  | nop
  /-- F2: JAM implied (R236). -/
  | jamF2
  /-- F8: SED implied (R185). -/
  | sed
  /-- FA: *NOP implied (R239). -/
  | nopFA
deriving DecidableEq, Repr

end Sys2Proof
end

