-- ==== Sys2Proof/WellFormed.lean ====
section
/-! DEFINITION. Well-formedness. Every term of `Instr` is well formed: there are no illegal encodings, no reserved
fields, and the operand bytes are fully used (30_encoding.md R83, R90). What can be ill formed is an image of an
instruction (its length, R80) and a region of the platform's memory map (its bounds, R50). -/

namespace Sys2Proof

/-- Every instruction term is legal: a constructor is a row of the opcode map, and every value of its operand bytes
is legal (R83, R90). -/
def Instr.wellFormed (_ : Instr) : Bool := true

/-- An instruction is 1, 2 or 3 bytes (R80). -/
def wellFormedImage (bytes : List Byte) : Bool := decide (1 ≤ bytes.length) && decide (bytes.length ≤ 3)

/-- A region is not empty and lies inside the 65,536 addresses (R50). -/
def Region.wellFormed (r : Region) : Bool := decide (r.lo ≤ r.hi) && decide (r.hi < 65536)

/-- Every region of the platform's memory map is well formed. -/
def Platform.wellFormed (p : Platform) : Bool := p.memMap.all Region.wellFormed

end Sys2Proof
end

