-- ==== Sys2Proof/Decode.lean ====
section
/-! DEFINITION. Decoding and encoding (30_encoding.md R80 to R91). The decoder reads the opcode map R88 row by row
and is total: all 256 opcode bytes select an instruction (R83, R90). On a list of bytes it rejects, by name, only
a list that ends before the instruction does. The encoder stands after it. -/

namespace Sys2Proof

/-- Row 0x of the opcode map (R88), by column. -/
def decodeRow0 (col : Nat) (b1 b2 : Byte) : Instr :=
  match col with
  | 0 => .brk
  | 1 => .oraIndX b1
  | 2 => .jam02
  | 3 => .sloIndX b1
  | 4 => .nopZp04 b1
  | 5 => .oraZp b1
  | 6 => .aslZp b1
  | 7 => .sloZp b1
  | 8 => .php
  | 9 => .oraImm b1
  | 10 => .aslA
  | 11 => .ancImm0B b1
  | 12 => .nopAbs0C b1 b2
  | 13 => .oraAbs b1 b2
  | 14 => .aslAbs b1 b2
  | _ => .sloAbs b1 b2

/-- Row 1x of the opcode map (R88), by column. -/
def decodeRow1 (col : Nat) (b1 b2 : Byte) : Instr :=
  match col with
  | 0 => .bpl b1
  | 1 => .oraIndY b1
  | 2 => .jam12
  | 3 => .sloIndY b1
  | 4 => .nopZpX14 b1
  | 5 => .oraZpX b1
  | 6 => .aslZpX b1
  | 7 => .sloZpX b1
  | 8 => .clc
  | 9 => .oraAbsY b1 b2
  | 10 => .nop1A
  | 11 => .sloAbsY b1 b2
  | 12 => .nopAbsX1C b1 b2
  | 13 => .oraAbsX b1 b2
  | 14 => .aslAbsX b1 b2
  | _ => .sloAbsX b1 b2

/-- Row 2x of the opcode map (R88), by column. -/
def decodeRow2 (col : Nat) (b1 b2 : Byte) : Instr :=
  match col with
  | 0 => .jsrAbs b1 b2
  | 1 => .andIndX b1
  | 2 => .jam22
  | 3 => .rlaIndX b1
  | 4 => .bitZp b1
  | 5 => .andZp b1
  | 6 => .rolZp b1
  | 7 => .rlaZp b1
  | 8 => .plp
  | 9 => .andImm b1
  | 10 => .rolA
  | 11 => .ancImm2B b1
  | 12 => .bitAbs b1 b2
  | 13 => .andAbs b1 b2
  | 14 => .rolAbs b1 b2
  | _ => .rlaAbs b1 b2

/-- Row 3x of the opcode map (R88), by column. -/
def decodeRow3 (col : Nat) (b1 b2 : Byte) : Instr :=
  match col with
  | 0 => .bmi b1
  | 1 => .andIndY b1
  | 2 => .jam32
  | 3 => .rlaIndY b1
  | 4 => .nopZpX34 b1
  | 5 => .andZpX b1
  | 6 => .rolZpX b1
  | 7 => .rlaZpX b1
  | 8 => .sec
  | 9 => .andAbsY b1 b2
  | 10 => .nop3A
  | 11 => .rlaAbsY b1 b2
  | 12 => .nopAbsX3C b1 b2
  | 13 => .andAbsX b1 b2
  | 14 => .rolAbsX b1 b2
  | _ => .rlaAbsX b1 b2

/-- Row 4x of the opcode map (R88), by column. -/
def decodeRow4 (col : Nat) (b1 b2 : Byte) : Instr :=
  match col with
  | 0 => .rti
  | 1 => .eorIndX b1
  | 2 => .jam42
  | 3 => .sreIndX b1
  | 4 => .nopZp44 b1
  | 5 => .eorZp b1
  | 6 => .lsrZp b1
  | 7 => .sreZp b1
  | 8 => .pha
  | 9 => .eorImm b1
  | 10 => .lsrA
  | 11 => .asrImm b1
  | 12 => .jmpAbs b1 b2
  | 13 => .eorAbs b1 b2
  | 14 => .lsrAbs b1 b2
  | _ => .sreAbs b1 b2

/-- Row 5x of the opcode map (R88), by column. -/
def decodeRow5 (col : Nat) (b1 b2 : Byte) : Instr :=
  match col with
  | 0 => .bvc b1
  | 1 => .eorIndY b1
  | 2 => .jam52
  | 3 => .sreIndY b1
  | 4 => .nopZpX54 b1
  | 5 => .eorZpX b1
  | 6 => .lsrZpX b1
  | 7 => .sreZpX b1
  | 8 => .cli
  | 9 => .eorAbsY b1 b2
  | 10 => .nop5A
  | 11 => .sreAbsY b1 b2
  | 12 => .nopAbsX5C b1 b2
  | 13 => .eorAbsX b1 b2
  | 14 => .lsrAbsX b1 b2
  | _ => .sreAbsX b1 b2

/-- Row 6x of the opcode map (R88), by column. -/
def decodeRow6 (col : Nat) (b1 b2 : Byte) : Instr :=
  match col with
  | 0 => .rts
  | 1 => .adcIndX b1
  | 2 => .jam62
  | 3 => .rraIndX b1
  | 4 => .nopZp64 b1
  | 5 => .adcZp b1
  | 6 => .rorZp b1
  | 7 => .rraZp b1
  | 8 => .pla
  | 9 => .adcImm b1
  | 10 => .rorA
  | 11 => .arrImm b1
  | 12 => .jmpInd b1 b2
  | 13 => .adcAbs b1 b2
  | 14 => .rorAbs b1 b2
  | _ => .rraAbs b1 b2

/-- Row 7x of the opcode map (R88), by column. -/
def decodeRow7 (col : Nat) (b1 b2 : Byte) : Instr :=
  match col with
  | 0 => .bvs b1
  | 1 => .adcIndY b1
  | 2 => .jam72
  | 3 => .rraIndY b1
  | 4 => .nopZpX74 b1
  | 5 => .adcZpX b1
  | 6 => .rorZpX b1
  | 7 => .rraZpX b1
  | 8 => .sei
  | 9 => .adcAbsY b1 b2
  | 10 => .nop7A
  | 11 => .rraAbsY b1 b2
  | 12 => .nopAbsX7C b1 b2
  | 13 => .adcAbsX b1 b2
  | 14 => .rorAbsX b1 b2
  | _ => .rraAbsX b1 b2

/-- Row 8x of the opcode map (R88), by column. -/
def decodeRow8 (col : Nat) (b1 b2 : Byte) : Instr :=
  match col with
  | 0 => .nopImm80 b1
  | 1 => .staIndX b1
  | 2 => .nopImm82 b1
  | 3 => .saxIndX b1
  | 4 => .styZp b1
  | 5 => .staZp b1
  | 6 => .stxZp b1
  | 7 => .saxZp b1
  | 8 => .dey
  | 9 => .nopImm89 b1
  | 10 => .txa
  | 11 => .xaaImm b1
  | 12 => .styAbs b1 b2
  | 13 => .staAbs b1 b2
  | 14 => .stxAbs b1 b2
  | _ => .saxAbs b1 b2

/-- Row 9x of the opcode map (R88), by column. -/
def decodeRow9 (col : Nat) (b1 b2 : Byte) : Instr :=
  match col with
  | 0 => .bcc b1
  | 1 => .staIndY b1
  | 2 => .jam92
  | 3 => .shaIndY b1
  | 4 => .styZpX b1
  | 5 => .staZpX b1
  | 6 => .stxZpY b1
  | 7 => .saxZpY b1
  | 8 => .tya
  | 9 => .staAbsY b1 b2
  | 10 => .txs
  | 11 => .shsAbsY b1 b2
  | 12 => .shyAbsX b1 b2
  | 13 => .staAbsX b1 b2
  | 14 => .shxAbsY b1 b2
  | _ => .shaAbsY b1 b2

/-- Row Ax of the opcode map (R88), by column. -/
def decodeRowA (col : Nat) (b1 b2 : Byte) : Instr :=
  match col with
  | 0 => .ldyImm b1
  | 1 => .ldaIndX b1
  | 2 => .ldxImm b1
  | 3 => .laxIndX b1
  | 4 => .ldyZp b1
  | 5 => .ldaZp b1
  | 6 => .ldxZp b1
  | 7 => .laxZp b1
  | 8 => .tay
  | 9 => .ldaImm b1
  | 10 => .tax
  | 11 => .laxImm b1
  | 12 => .ldyAbs b1 b2
  | 13 => .ldaAbs b1 b2
  | 14 => .ldxAbs b1 b2
  | _ => .laxAbs b1 b2

/-- Row Bx of the opcode map (R88), by column. -/
def decodeRowB (col : Nat) (b1 b2 : Byte) : Instr :=
  match col with
  | 0 => .bcs b1
  | 1 => .ldaIndY b1
  | 2 => .jamB2
  | 3 => .laxIndY b1
  | 4 => .ldyZpX b1
  | 5 => .ldaZpX b1
  | 6 => .ldxZpY b1
  | 7 => .laxZpY b1
  | 8 => .clv
  | 9 => .ldaAbsY b1 b2
  | 10 => .tsx
  | 11 => .lasAbsY b1 b2
  | 12 => .ldyAbsX b1 b2
  | 13 => .ldaAbsX b1 b2
  | 14 => .ldxAbsY b1 b2
  | _ => .laxAbsY b1 b2

/-- Row Cx of the opcode map (R88), by column. -/
def decodeRowC (col : Nat) (b1 b2 : Byte) : Instr :=
  match col with
  | 0 => .cpyImm b1
  | 1 => .cmpIndX b1
  | 2 => .nopImmC2 b1
  | 3 => .dcpIndX b1
  | 4 => .cpyZp b1
  | 5 => .cmpZp b1
  | 6 => .decZp b1
  | 7 => .dcpZp b1
  | 8 => .iny
  | 9 => .cmpImm b1
  | 10 => .dex
  | 11 => .sbxImm b1
  | 12 => .cpyAbs b1 b2
  | 13 => .cmpAbs b1 b2
  | 14 => .decAbs b1 b2
  | _ => .dcpAbs b1 b2

/-- Row Dx of the opcode map (R88), by column. -/
def decodeRowD (col : Nat) (b1 b2 : Byte) : Instr :=
  match col with
  | 0 => .bne b1
  | 1 => .cmpIndY b1
  | 2 => .jamD2
  | 3 => .dcpIndY b1
  | 4 => .nopZpXD4 b1
  | 5 => .cmpZpX b1
  | 6 => .decZpX b1
  | 7 => .dcpZpX b1
  | 8 => .cld
  | 9 => .cmpAbsY b1 b2
  | 10 => .nopDA
  | 11 => .dcpAbsY b1 b2
  | 12 => .nopAbsXDC b1 b2
  | 13 => .cmpAbsX b1 b2
  | 14 => .decAbsX b1 b2
  | _ => .dcpAbsX b1 b2

/-- Row Ex of the opcode map (R88), by column. -/
def decodeRowE (col : Nat) (b1 b2 : Byte) : Instr :=
  match col with
  | 0 => .cpxImm b1
  | 1 => .sbcIndX b1
  | 2 => .nopImmE2 b1
  | 3 => .iscIndX b1
  | 4 => .cpxZp b1
  | 5 => .sbcZp b1
  | 6 => .incZp b1
  | 7 => .iscZp b1
  | 8 => .inx
  | 9 => .sbcImm b1
  | 10 => .nop
  | 11 => .sbcImmEB b1
  | 12 => .cpxAbs b1 b2
  | 13 => .sbcAbs b1 b2
  | 14 => .incAbs b1 b2
  | _ => .iscAbs b1 b2

/-- Row Fx of the opcode map (R88), by column. -/
def decodeRowF (col : Nat) (b1 b2 : Byte) : Instr :=
  match col with
  | 0 => .beq b1
  | 1 => .sbcIndY b1
  | 2 => .jamF2
  | 3 => .iscIndY b1
  | 4 => .nopZpXF4 b1
  | 5 => .sbcZpX b1
  | 6 => .incZpX b1
  | 7 => .iscZpX b1
  | 8 => .sed
  | 9 => .sbcAbsY b1 b2
  | 10 => .nopFA
  | 11 => .iscAbsY b1 b2
  | 12 => .nopAbsXFC b1 b2
  | 13 => .sbcAbsX b1 b2
  | 14 => .incAbsX b1 b2
  | _ => .iscAbsX b1 b2

/-- The instruction that the opcode byte `op` selects, with `b1` and `b2` the bytes that follow it (R83, R88). The
bytes beyond the instruction's length are not used (R81). -/
def decodeOpcode (op b1 b2 : Byte) : Instr :=
  match op.toNat / 16 with
  | 0 => decodeRow0 (op.toNat % 16) b1 b2
  | 1 => decodeRow1 (op.toNat % 16) b1 b2
  | 2 => decodeRow2 (op.toNat % 16) b1 b2
  | 3 => decodeRow3 (op.toNat % 16) b1 b2
  | 4 => decodeRow4 (op.toNat % 16) b1 b2
  | 5 => decodeRow5 (op.toNat % 16) b1 b2
  | 6 => decodeRow6 (op.toNat % 16) b1 b2
  | 7 => decodeRow7 (op.toNat % 16) b1 b2
  | 8 => decodeRow8 (op.toNat % 16) b1 b2
  | 9 => decodeRow9 (op.toNat % 16) b1 b2
  | 10 => decodeRowA (op.toNat % 16) b1 b2
  | 11 => decodeRowB (op.toNat % 16) b1 b2
  | 12 => decodeRowC (op.toNat % 16) b1 b2
  | 13 => decodeRowD (op.toNat % 16) b1 b2
  | 14 => decodeRowE (op.toNat % 16) b1 b2
  | _ => decodeRowF (op.toNat % 16) b1 b2

/-- The mnemonic of each row of the opcode map (R88). -/
def Instr.mnemonic : Instr → Mnemonic
  | .adcIndX _ | .adcZp _ | .adcImm _ | .adcAbs _ _ | .adcIndY _ | .adcZpX _ | .adcAbsY _ _ | .adcAbsX _ _ => .adc
  | .andIndX _ | .andZp _ | .andImm _ | .andAbs _ _ | .andIndY _ | .andZpX _ | .andAbsY _ _ | .andAbsX _ _ => .and
  | .aslZp _ | .aslA | .aslAbs _ _ | .aslZpX _ | .aslAbsX _ _ => .asl
  | .bcc _ => .bcc
  | .bcs _ => .bcs
  | .beq _ => .beq
  | .bitZp _ | .bitAbs _ _ => .bit
  | .bmi _ => .bmi
  | .bne _ => .bne
  | .bpl _ => .bpl
  | .brk => .brk
  | .bvc _ => .bvc
  | .bvs _ => .bvs
  | .clc => .clc
  | .cld => .cld
  | .cli => .cli
  | .clv => .clv
  | .cmpIndX _ | .cmpZp _ | .cmpImm _ | .cmpAbs _ _ | .cmpIndY _ | .cmpZpX _ | .cmpAbsY _ _ | .cmpAbsX _ _ => .cmp
  | .cpxImm _ | .cpxZp _ | .cpxAbs _ _ => .cpx
  | .cpyImm _ | .cpyZp _ | .cpyAbs _ _ => .cpy
  | .decZp _ | .decAbs _ _ | .decZpX _ | .decAbsX _ _ => .dec
  | .dex => .dex
  | .dey => .dey
  | .eorIndX _ | .eorZp _ | .eorImm _ | .eorAbs _ _ | .eorIndY _ | .eorZpX _ | .eorAbsY _ _ | .eorAbsX _ _ => .eor
  | .incZp _ | .incAbs _ _ | .incZpX _ | .incAbsX _ _ => .inc
  | .inx => .inx
  | .iny => .iny
  | .jmpAbs _ _ | .jmpInd _ _ => .jmp
  | .jsrAbs _ _ => .jsr
  | .ldaIndX _ | .ldaZp _ | .ldaImm _ | .ldaAbs _ _ | .ldaIndY _ | .ldaZpX _ | .ldaAbsY _ _ | .ldaAbsX _ _ => .lda
  | .ldxImm _ | .ldxZp _ | .ldxAbs _ _ | .ldxZpY _ | .ldxAbsY _ _ => .ldx
  | .ldyImm _ | .ldyZp _ | .ldyAbs _ _ | .ldyZpX _ | .ldyAbsX _ _ => .ldy
  | .lsrZp _ | .lsrA | .lsrAbs _ _ | .lsrZpX _ | .lsrAbsX _ _ => .lsr
  | .nop => .nop
  | .oraIndX _ | .oraZp _ | .oraImm _ | .oraAbs _ _ | .oraIndY _ | .oraZpX _ | .oraAbsY _ _ | .oraAbsX _ _ => .ora
  | .pha => .pha
  | .php => .php
  | .pla => .pla
  | .plp => .plp
  | .rolZp _ | .rolA | .rolAbs _ _ | .rolZpX _ | .rolAbsX _ _ => .rol
  | .rorZp _ | .rorA | .rorAbs _ _ | .rorZpX _ | .rorAbsX _ _ => .ror
  | .rti => .rti
  | .rts => .rts
  | .sbcIndX _ | .sbcZp _ | .sbcImm _ | .sbcAbs _ _ | .sbcIndY _ | .sbcZpX _ | .sbcAbsY _ _ | .sbcAbsX _ _ => .sbc
  | .sec => .sec
  | .sed => .sed
  | .sei => .sei
  | .staIndX _ | .staZp _ | .staAbs _ _ | .staIndY _ | .staZpX _ | .staAbsY _ _ | .staAbsX _ _ => .sta
  | .stxZp _ | .stxAbs _ _ | .stxZpY _ => .stx
  | .styZp _ | .styAbs _ _ | .styZpX _ => .sty
  | .tax => .tax
  | .tay => .tay
  | .tsx => .tsx
  | .txa => .txa
  | .txs => .txs
  | .tya => .tya
  | .ancImm0B _ | .ancImm2B _ => .anc
  | .arrImm _ => .arr
  | .asrImm _ => .asr
  | .dcpIndX _ | .dcpZp _ | .dcpAbs _ _ | .dcpIndY _ | .dcpZpX _ | .dcpAbsY _ _ | .dcpAbsX _ _ => .dcp
  | .iscIndX _ | .iscZp _ | .iscAbs _ _ | .iscIndY _ | .iscZpX _ | .iscAbsY _ _ | .iscAbsX _ _ => .isc
  | .jam02 | .jam12 | .jam22 | .jam32 | .jam42 | .jam52 | .jam62 | .jam72 | .jam92 | .jamB2 | .jamD2
  | .jamF2 => .jam
  | .lasAbsY _ _ => .las
  | .laxIndX _ | .laxZp _ | .laxImm _ | .laxAbs _ _ | .laxIndY _ | .laxZpY _ | .laxAbsY _ _ => .lax
  | .nopZp04 _ | .nopAbs0C _ _ | .nopZpX14 _ | .nop1A | .nopAbsX1C _ _ | .nopZpX34 _ | .nop3A
  | .nopAbsX3C _ _ | .nopZp44 _ | .nopZpX54 _ | .nop5A | .nopAbsX5C _ _ | .nopZp64 _ | .nopZpX74 _ | .nop7A
  | .nopAbsX7C _ _ | .nopImm80 _ | .nopImm82 _ | .nopImm89 _ | .nopImmC2 _ | .nopZpXD4 _ | .nopDA
  | .nopAbsXDC _ _ | .nopImmE2 _ | .nopZpXF4 _ | .nopFA | .nopAbsXFC _ _ => .nopUndoc
  | .rlaIndX _ | .rlaZp _ | .rlaAbs _ _ | .rlaIndY _ | .rlaZpX _ | .rlaAbsY _ _ | .rlaAbsX _ _ => .rla
  | .rraIndX _ | .rraZp _ | .rraAbs _ _ | .rraIndY _ | .rraZpX _ | .rraAbsY _ _ | .rraAbsX _ _ => .rra
  | .saxIndX _ | .saxZp _ | .saxAbs _ _ | .saxZpY _ => .sax
  | .sbcImmEB _ => .sbcUndoc
  | .sbxImm _ => .sbx
  | .shaIndY _ | .shaAbsY _ _ => .sha
  | .shsAbsY _ _ => .shs
  | .shxAbsY _ _ => .shx
  | .shyAbsX _ _ => .shy
  | .sloIndX _ | .sloZp _ | .sloAbs _ _ | .sloIndY _ | .sloZpX _ | .sloAbsY _ _ | .sloAbsX _ _ => .slo
  | .sreIndX _ | .sreZp _ | .sreAbs _ _ | .sreIndY _ | .sreZpX _ | .sreAbsY _ _ | .sreAbsX _ _ => .sre
  | .xaaImm _ => .xaa

/-- The addressing mode of each row of the opcode map (R88), with its operand bytes. -/
def Instr.operand : Instr → Operand
  | .brk | .jam02 | .php | .jam12 | .clc | .nop1A | .jam22 | .plp | .jam32 | .sec | .nop3A | .rti | .jam42
  | .pha | .jam52 | .cli | .nop5A | .rts | .jam62 | .pla | .jam72 | .sei | .nop7A | .dey | .txa | .jam92
  | .tya | .txs | .tay | .tax | .jamB2 | .clv | .tsx | .iny | .dex | .jamD2 | .cld | .nopDA | .inx | .nop
  | .jamF2 | .sed | .nopFA => .implied
  | .oraIndX b1 | .sloIndX b1 | .andIndX b1 | .rlaIndX b1 | .eorIndX b1 | .sreIndX b1 | .adcIndX b1
  | .rraIndX b1 | .staIndX b1 | .saxIndX b1 | .ldaIndX b1 | .laxIndX b1 | .cmpIndX b1 | .dcpIndX b1
  | .sbcIndX b1 | .iscIndX b1 => .memory (.indX b1)
  | .nopZp04 b1 | .oraZp b1 | .aslZp b1 | .sloZp b1 | .bitZp b1 | .andZp b1 | .rolZp b1 | .rlaZp b1
  | .nopZp44 b1 | .eorZp b1 | .lsrZp b1 | .sreZp b1 | .nopZp64 b1 | .adcZp b1 | .rorZp b1 | .rraZp b1
  | .styZp b1 | .staZp b1 | .stxZp b1 | .saxZp b1 | .ldyZp b1 | .ldaZp b1 | .ldxZp b1 | .laxZp b1
  | .cpyZp b1 | .cmpZp b1 | .decZp b1 | .dcpZp b1 | .cpxZp b1 | .sbcZp b1 | .incZp b1 | .iscZp b1 => .memory (.zp b1)
  | .oraImm b1 | .ancImm0B b1 | .andImm b1 | .ancImm2B b1 | .eorImm b1 | .asrImm b1 | .adcImm b1
  | .arrImm b1 | .nopImm80 b1 | .nopImm82 b1 | .nopImm89 b1 | .xaaImm b1 | .ldyImm b1 | .ldxImm b1
  | .ldaImm b1 | .laxImm b1 | .cpyImm b1 | .nopImmC2 b1 | .cmpImm b1 | .sbxImm b1 | .cpxImm b1
  | .nopImmE2 b1 | .sbcImm b1 | .sbcImmEB b1 => .immediate b1
  | .aslA | .rolA | .lsrA | .rorA => .accumulator
  | .nopAbs0C b1 b2 | .oraAbs b1 b2 | .aslAbs b1 b2 | .sloAbs b1 b2 | .jsrAbs b1 b2 | .bitAbs b1 b2
  | .andAbs b1 b2 | .rolAbs b1 b2 | .rlaAbs b1 b2 | .jmpAbs b1 b2 | .eorAbs b1 b2 | .lsrAbs b1 b2
  | .sreAbs b1 b2 | .adcAbs b1 b2 | .rorAbs b1 b2 | .rraAbs b1 b2 | .styAbs b1 b2 | .staAbs b1 b2
  | .stxAbs b1 b2 | .saxAbs b1 b2 | .ldyAbs b1 b2 | .ldaAbs b1 b2 | .ldxAbs b1 b2 | .laxAbs b1 b2
  | .cpyAbs b1 b2 | .cmpAbs b1 b2 | .decAbs b1 b2 | .dcpAbs b1 b2 | .cpxAbs b1 b2 | .sbcAbs b1 b2
  | .incAbs b1 b2 | .iscAbs b1 b2 => .memory (.abs b1 b2)
  | .bpl b1 | .bmi b1 | .bvc b1 | .bvs b1 | .bcc b1 | .bcs b1 | .bne b1 | .beq b1 => .relative b1
  | .oraIndY b1 | .sloIndY b1 | .andIndY b1 | .rlaIndY b1 | .eorIndY b1 | .sreIndY b1 | .adcIndY b1
  | .rraIndY b1 | .staIndY b1 | .shaIndY b1 | .ldaIndY b1 | .laxIndY b1 | .cmpIndY b1 | .dcpIndY b1
  | .sbcIndY b1 | .iscIndY b1 => .memory (.indY b1)
  | .nopZpX14 b1 | .oraZpX b1 | .aslZpX b1 | .sloZpX b1 | .nopZpX34 b1 | .andZpX b1 | .rolZpX b1
  | .rlaZpX b1 | .nopZpX54 b1 | .eorZpX b1 | .lsrZpX b1 | .sreZpX b1 | .nopZpX74 b1 | .adcZpX b1
  | .rorZpX b1 | .rraZpX b1 | .styZpX b1 | .staZpX b1 | .ldyZpX b1 | .ldaZpX b1 | .nopZpXD4 b1 | .cmpZpX b1
  | .decZpX b1 | .dcpZpX b1 | .nopZpXF4 b1 | .sbcZpX b1 | .incZpX b1 | .iscZpX b1 => .memory (.zpX b1)
  | .oraAbsY b1 b2 | .sloAbsY b1 b2 | .andAbsY b1 b2 | .rlaAbsY b1 b2 | .eorAbsY b1 b2 | .sreAbsY b1 b2
  | .adcAbsY b1 b2 | .rraAbsY b1 b2 | .staAbsY b1 b2 | .shsAbsY b1 b2 | .shxAbsY b1 b2 | .shaAbsY b1 b2
  | .ldaAbsY b1 b2 | .lasAbsY b1 b2 | .ldxAbsY b1 b2 | .laxAbsY b1 b2 | .cmpAbsY b1 b2 | .dcpAbsY b1 b2
  | .sbcAbsY b1 b2 | .iscAbsY b1 b2 => .memory (.absY b1 b2)
  | .nopAbsX1C b1 b2 | .oraAbsX b1 b2 | .aslAbsX b1 b2 | .sloAbsX b1 b2 | .nopAbsX3C b1 b2 | .andAbsX b1 b2
  | .rolAbsX b1 b2 | .rlaAbsX b1 b2 | .nopAbsX5C b1 b2 | .eorAbsX b1 b2 | .lsrAbsX b1 b2 | .sreAbsX b1 b2
  | .nopAbsX7C b1 b2 | .adcAbsX b1 b2 | .rorAbsX b1 b2 | .rraAbsX b1 b2 | .shyAbsX b1 b2 | .staAbsX b1 b2
  | .ldyAbsX b1 b2 | .ldaAbsX b1 b2 | .nopAbsXDC b1 b2 | .cmpAbsX b1 b2 | .decAbsX b1 b2 | .dcpAbsX b1 b2
  | .nopAbsXFC b1 b2 | .sbcAbsX b1 b2 | .incAbsX b1 b2 | .iscAbsX b1 b2 => .memory (.absX b1 b2)
  | .jmpInd b1 b2 => .indirect b1 b2
  | .stxZpY b1 | .saxZpY b1 | .ldxZpY b1 | .laxZpY b1 => .memory (.zpY b1)

/-- The operand bytes of a memory mode, in memory order (R80, R82). -/
def MemMode.bytes : MemMode → List Byte
  | .zp b1 | .zpX b1 | .zpY b1 | .indX b1 | .indY b1 => [b1]
  | .abs b1 b2 | .absX b1 b2 | .absY b1 b2 => [b1, b2]

/-- The operand bytes of an addressing mode, in memory order (R80, R81, R82). -/
def Operand.bytes : Operand → List Byte
  | .implied | .accumulator => []
  | .immediate b1 | .relative b1 => [b1]
  | .memory m => m.bytes
  | .indirect b1 b2 => [b1, b2]

/-- The operand bytes of a class-read operand. -/
def Source.bytes : Source → List Byte
  | .immediate b1 => [b1]
  | .memory m => m.bytes

/-- The length of an instruction in bytes (R81). -/
def Operand.length (o : Operand) : Nat := 1 + o.bytes.length

/-- The length of an instruction with a memory mode (R81). -/
def MemMode.length (m : MemMode) : Nat := 1 + m.bytes.length

/-- The length of an instruction with a class-read operand (R81). -/
def Source.length (src : Source) : Nat := 1 + src.bytes.length

/-- The length of an instruction in bytes: 1, 2 or 3 (R80, R81). -/
def Instr.length (i : Instr) : Nat := i.operand.length

/-- Why a list of bytes holds no instruction. No opcode is ever the reason (R83, R90). -/
inductive DecodeError where
  /-- The list is empty. -/
  | noOpcode
  /-- The list ends before the instruction's operand bytes do. -/
  | missingOperand
deriving DecidableEq, Repr

/-- Decode the instruction at the head of a list of bytes; answer it and the bytes after it. -/
def decode : List Byte → Except DecodeError (Instr × List Byte)
  | [] => .error .noOpcode
  | op :: rest =>
    let i := decodeOpcode op (rest.getD 0 0) (rest.getD 1 0)
    if rest.length + 1 < i.length then .error .missingOperand
    else .ok (i, rest.drop (i.length - 1))

/-- The three bytes of an instruction whose bits are `w`, numbered from bit 0 of the first byte (the table's
numbering), with every bit from `nbits` on taken as 0. -/
def tableBytes (nbits w : Nat) : List Byte :=
  let v := w % 2 ^ nbits
  [BitVec.ofNat 8 v, BitVec.ofNat 8 (v / 2 ^ 8), BitVec.ofNat 8 (v / 2 ^ 16)]

/-- The instruction the decoder reads from the table word `w` of `nbits` bits. -/
def decodeTableWord (nbits w : Nat) : Option Instr :=
  match decode (tableBytes nbits w) with
  | .ok (i, _) => some i
  | .error _ => none

/-- The opcode byte of each instruction (R88, R89, 49_undocumented.md). -/
def Instr.opcode : Instr → Byte
  | .brk => 0x00
  | .oraIndX _ => 0x01
  | .jam02 => 0x02
  | .sloIndX _ => 0x03
  | .nopZp04 _ => 0x04
  | .oraZp _ => 0x05
  | .aslZp _ => 0x06
  | .sloZp _ => 0x07
  | .php => 0x08
  | .oraImm _ => 0x09
  | .aslA => 0x0A
  | .ancImm0B _ => 0x0B
  | .nopAbs0C _ _ => 0x0C
  | .oraAbs _ _ => 0x0D
  | .aslAbs _ _ => 0x0E
  | .sloAbs _ _ => 0x0F
  | .bpl _ => 0x10
  | .oraIndY _ => 0x11
  | .jam12 => 0x12
  | .sloIndY _ => 0x13
  | .nopZpX14 _ => 0x14
  | .oraZpX _ => 0x15
  | .aslZpX _ => 0x16
  | .sloZpX _ => 0x17
  | .clc => 0x18
  | .oraAbsY _ _ => 0x19
  | .nop1A => 0x1A
  | .sloAbsY _ _ => 0x1B
  | .nopAbsX1C _ _ => 0x1C
  | .oraAbsX _ _ => 0x1D
  | .aslAbsX _ _ => 0x1E
  | .sloAbsX _ _ => 0x1F
  | .jsrAbs _ _ => 0x20
  | .andIndX _ => 0x21
  | .jam22 => 0x22
  | .rlaIndX _ => 0x23
  | .bitZp _ => 0x24
  | .andZp _ => 0x25
  | .rolZp _ => 0x26
  | .rlaZp _ => 0x27
  | .plp => 0x28
  | .andImm _ => 0x29
  | .rolA => 0x2A
  | .ancImm2B _ => 0x2B
  | .bitAbs _ _ => 0x2C
  | .andAbs _ _ => 0x2D
  | .rolAbs _ _ => 0x2E
  | .rlaAbs _ _ => 0x2F
  | .bmi _ => 0x30
  | .andIndY _ => 0x31
  | .jam32 => 0x32
  | .rlaIndY _ => 0x33
  | .nopZpX34 _ => 0x34
  | .andZpX _ => 0x35
  | .rolZpX _ => 0x36
  | .rlaZpX _ => 0x37
  | .sec => 0x38
  | .andAbsY _ _ => 0x39
  | .nop3A => 0x3A
  | .rlaAbsY _ _ => 0x3B
  | .nopAbsX3C _ _ => 0x3C
  | .andAbsX _ _ => 0x3D
  | .rolAbsX _ _ => 0x3E
  | .rlaAbsX _ _ => 0x3F
  | .rti => 0x40
  | .eorIndX _ => 0x41
  | .jam42 => 0x42
  | .sreIndX _ => 0x43
  | .nopZp44 _ => 0x44
  | .eorZp _ => 0x45
  | .lsrZp _ => 0x46
  | .sreZp _ => 0x47
  | .pha => 0x48
  | .eorImm _ => 0x49
  | .lsrA => 0x4A
  | .asrImm _ => 0x4B
  | .jmpAbs _ _ => 0x4C
  | .eorAbs _ _ => 0x4D
  | .lsrAbs _ _ => 0x4E
  | .sreAbs _ _ => 0x4F
  | .bvc _ => 0x50
  | .eorIndY _ => 0x51
  | .jam52 => 0x52
  | .sreIndY _ => 0x53
  | .nopZpX54 _ => 0x54
  | .eorZpX _ => 0x55
  | .lsrZpX _ => 0x56
  | .sreZpX _ => 0x57
  | .cli => 0x58
  | .eorAbsY _ _ => 0x59
  | .nop5A => 0x5A
  | .sreAbsY _ _ => 0x5B
  | .nopAbsX5C _ _ => 0x5C
  | .eorAbsX _ _ => 0x5D
  | .lsrAbsX _ _ => 0x5E
  | .sreAbsX _ _ => 0x5F
  | .rts => 0x60
  | .adcIndX _ => 0x61
  | .jam62 => 0x62
  | .rraIndX _ => 0x63
  | .nopZp64 _ => 0x64
  | .adcZp _ => 0x65
  | .rorZp _ => 0x66
  | .rraZp _ => 0x67
  | .pla => 0x68
  | .adcImm _ => 0x69
  | .rorA => 0x6A
  | .arrImm _ => 0x6B
  | .jmpInd _ _ => 0x6C
  | .adcAbs _ _ => 0x6D
  | .rorAbs _ _ => 0x6E
  | .rraAbs _ _ => 0x6F
  | .bvs _ => 0x70
  | .adcIndY _ => 0x71
  | .jam72 => 0x72
  | .rraIndY _ => 0x73
  | .nopZpX74 _ => 0x74
  | .adcZpX _ => 0x75
  | .rorZpX _ => 0x76
  | .rraZpX _ => 0x77
  | .sei => 0x78
  | .adcAbsY _ _ => 0x79
  | .nop7A => 0x7A
  | .rraAbsY _ _ => 0x7B
  | .nopAbsX7C _ _ => 0x7C
  | .adcAbsX _ _ => 0x7D
  | .rorAbsX _ _ => 0x7E
  | .rraAbsX _ _ => 0x7F
  | .nopImm80 _ => 0x80
  | .staIndX _ => 0x81
  | .nopImm82 _ => 0x82
  | .saxIndX _ => 0x83
  | .styZp _ => 0x84
  | .staZp _ => 0x85
  | .stxZp _ => 0x86
  | .saxZp _ => 0x87
  | .dey => 0x88
  | .nopImm89 _ => 0x89
  | .txa => 0x8A
  | .xaaImm _ => 0x8B
  | .styAbs _ _ => 0x8C
  | .staAbs _ _ => 0x8D
  | .stxAbs _ _ => 0x8E
  | .saxAbs _ _ => 0x8F
  | .bcc _ => 0x90
  | .staIndY _ => 0x91
  | .jam92 => 0x92
  | .shaIndY _ => 0x93
  | .styZpX _ => 0x94
  | .staZpX _ => 0x95
  | .stxZpY _ => 0x96
  | .saxZpY _ => 0x97
  | .tya => 0x98
  | .staAbsY _ _ => 0x99
  | .txs => 0x9A
  | .shsAbsY _ _ => 0x9B
  | .shyAbsX _ _ => 0x9C
  | .staAbsX _ _ => 0x9D
  | .shxAbsY _ _ => 0x9E
  | .shaAbsY _ _ => 0x9F
  | .ldyImm _ => 0xA0
  | .ldaIndX _ => 0xA1
  | .ldxImm _ => 0xA2
  | .laxIndX _ => 0xA3
  | .ldyZp _ => 0xA4
  | .ldaZp _ => 0xA5
  | .ldxZp _ => 0xA6
  | .laxZp _ => 0xA7
  | .tay => 0xA8
  | .ldaImm _ => 0xA9
  | .tax => 0xAA
  | .laxImm _ => 0xAB
  | .ldyAbs _ _ => 0xAC
  | .ldaAbs _ _ => 0xAD
  | .ldxAbs _ _ => 0xAE
  | .laxAbs _ _ => 0xAF
  | .bcs _ => 0xB0
  | .ldaIndY _ => 0xB1
  | .jamB2 => 0xB2
  | .laxIndY _ => 0xB3
  | .ldyZpX _ => 0xB4
  | .ldaZpX _ => 0xB5
  | .ldxZpY _ => 0xB6
  | .laxZpY _ => 0xB7
  | .clv => 0xB8
  | .ldaAbsY _ _ => 0xB9
  | .tsx => 0xBA
  | .lasAbsY _ _ => 0xBB
  | .ldyAbsX _ _ => 0xBC
  | .ldaAbsX _ _ => 0xBD
  | .ldxAbsY _ _ => 0xBE
  | .laxAbsY _ _ => 0xBF
  | .cpyImm _ => 0xC0
  | .cmpIndX _ => 0xC1
  | .nopImmC2 _ => 0xC2
  | .dcpIndX _ => 0xC3
  | .cpyZp _ => 0xC4
  | .cmpZp _ => 0xC5
  | .decZp _ => 0xC6
  | .dcpZp _ => 0xC7
  | .iny => 0xC8
  | .cmpImm _ => 0xC9
  | .dex => 0xCA
  | .sbxImm _ => 0xCB
  | .cpyAbs _ _ => 0xCC
  | .cmpAbs _ _ => 0xCD
  | .decAbs _ _ => 0xCE
  | .dcpAbs _ _ => 0xCF
  | .bne _ => 0xD0
  | .cmpIndY _ => 0xD1
  | .jamD2 => 0xD2
  | .dcpIndY _ => 0xD3
  | .nopZpXD4 _ => 0xD4
  | .cmpZpX _ => 0xD5
  | .decZpX _ => 0xD6
  | .dcpZpX _ => 0xD7
  | .cld => 0xD8
  | .cmpAbsY _ _ => 0xD9
  | .nopDA => 0xDA
  | .dcpAbsY _ _ => 0xDB
  | .nopAbsXDC _ _ => 0xDC
  | .cmpAbsX _ _ => 0xDD
  | .decAbsX _ _ => 0xDE
  | .dcpAbsX _ _ => 0xDF
  | .cpxImm _ => 0xE0
  | .sbcIndX _ => 0xE1
  | .nopImmE2 _ => 0xE2
  | .iscIndX _ => 0xE3
  | .cpxZp _ => 0xE4
  | .sbcZp _ => 0xE5
  | .incZp _ => 0xE6
  | .iscZp _ => 0xE7
  | .inx => 0xE8
  | .sbcImm _ => 0xE9
  | .nop => 0xEA
  | .sbcImmEB _ => 0xEB
  | .cpxAbs _ _ => 0xEC
  | .sbcAbs _ _ => 0xED
  | .incAbs _ _ => 0xEE
  | .iscAbs _ _ => 0xEF
  | .beq _ => 0xF0
  | .sbcIndY _ => 0xF1
  | .jamF2 => 0xF2
  | .iscIndY _ => 0xF3
  | .nopZpXF4 _ => 0xF4
  | .sbcZpX _ => 0xF5
  | .incZpX _ => 0xF6
  | .iscZpX _ => 0xF7
  | .sed => 0xF8
  | .sbcAbsY _ _ => 0xF9
  | .nopFA => 0xFA
  | .iscAbsY _ _ => 0xFB
  | .nopAbsXFC _ _ => 0xFC
  | .sbcAbsX _ _ => 0xFD
  | .incAbsX _ _ => 0xFE
  | .iscAbsX _ _ => 0xFF

/-- The bytes of an instruction in memory order: opcode, then the operand bytes (R80). -/
def encode (i : Instr) : List Byte := i.opcode :: i.operand.bytes

/-- The table word of an instruction: its bytes as one number, the first byte in bits 7..0. -/
def Instr.tableWord (i : Instr) : Nat :=
  match encode i with
  | [op] => op.toNat
  | [op, b1] => op.toNat + b1.toNat * 2 ^ 8
  | op :: b1 :: b2 :: _ => op.toNat + b1.toNat * 2 ^ 8 + b2.toNat * 2 ^ 16
  | [] => 0

end Sys2Proof
end

