-- ==== Sys2Proof/Machine/Bits.lean ====
section
/-! DEFINITION. Slices, concatenation and extension of words (00_scope.md R6, R7). -/

namespace Sys2Proof.Machine

/-- The 16-bit value made of a high byte and a low byte, the spec's `{h, l}` (R7). -/
def join (h l : Byte) : Addr := h ++ l

/-- The high byte of a 16-bit value, the spec's `hi(w)` (R7). -/
def hi (w : Addr) : Byte := w.extractLsb' 8 8

/-- The low byte of a 16-bit value, the spec's `lo(w)` (R7). -/
def lo (w : Addr) : Byte := w.extractLsb' 0 8

/-- A byte as a 16-bit value with a zero high byte, the spec's `zext_16` (R7). -/
def zext (b : Byte) : Addr := b.setWidth 16

/-- A byte as a sign-extended 16-bit value, the spec's `sext_16` (R7). -/
def sext (b : Byte) : Addr := b.signExtend 16

/-- The next address in the same page: only the low byte is incremented (R112). -/
def nextInPage (w : Addr) : Addr := join (hi w) (lo w + 1)

/-- A bit as a number, 0 or 1. -/
def bitVal (b : Bool) : Nat := if b then 1 else 0

end Sys2Proof.Machine
end

