-- ==== Sys2Proof/Machine/State.lean ====
section
/-! DEFINITION. The machine's state as plain data: every piece of state of 10_state.md R21, and the model's own
fields (platform, environment, free-value counter), each marked as such. Reset is 70_reset_and_hazards.md R290,
R291 and 10_state.md R43. -/

namespace Sys2Proof.Machine

/-- The six flags of P that are state (R28, R31). Bits 5 and 4 of P hold no state: they exist only in the byte
that stands for P on the stack (R33). -/
structure Status where
  /-- Negative, bit 7 (R29). -/
  n : Bool
  /-- Overflow, bit 6 (R30). -/
  v : Bool
  /-- Decimal, bit 3 (R32). -/
  d : Bool
  /-- Interrupt Disable, bit 2 (R35). -/
  i : Bool
  /-- Zero, bit 1 (R36). -/
  z : Bool
  /-- Carry, bit 0 (R37). -/
  c : Bool
deriving DecidableEq, Repr

/-- The two interrupt inputs that can collide with a BRK (R271). -/
inductive Interrupt where
  | irq
  | nmi
deriving DecidableEq, Repr

/-- One step of the environment (R260). What a device does to its own state is not CPU state and needs no event;
what it does to the CPU goes through these lines. -/
inductive EnvEvent where
  /-- The IRQ input takes this level (R264). -/
  | irqLine (level : Bool)
  /-- An NMI event (R265). -/
  | nmi
  /-- The RESET input takes this level (R266). -/
  | resetLine (level : Bool)
  /-- The set-overflow input takes this level (R41, R277). -/
  | soLine (level : Bool)
deriving DecidableEq, Repr

/-- What the environment does around one CPU step: its own steps before it, in order (R260), and the interrupt it
signals during it, which matters only if the step executes a BRK (R271). What the CPU sees of the lines is their level
after all of `before` (log 28). -/
structure EnvInput where
  before : List EnvEvent
  during : Option Interrupt
deriving DecidableEq, Repr

/-- The whole state of the machine (R21). -/
structure State where
  /-- A, Accumulator (R22). -/
  a : Byte
  /-- X Index Register (R23). -/
  x : Byte
  /-- Y Index Register (R24). -/
  y : Byte
  /-- S, Stack Pointer: the low byte of the next empty stack location (R25). -/
  sp : Byte
  /-- PC, Program Counter: at a boundary, the address of the next opcode byte (R26). -/
  pc : Addr
  /-- P, Processor Status: the six flags (R28). -/
  p : Status
  /-- The stored bytes of the address space (R50), in canonical form (`Memory.wf`). -/
  mem : List Host.Cell
  /-- Set by JAM, cleared by RESET (R39). -/
  halted : Bool
  /-- The NMI latch (R40). -/
  nmiPending : Bool
  /-- P.I before the last instruction when that was CLI, SEI or PLP, else equal to P.I (R40). -/
  iPrev : Bool
  /-- Level of the IRQ input (R40). -/
  irqLine : Bool
  /-- Level of the RESET input (R40). -/
  resetLine : Bool
  /-- Level of the set-overflow input (R21, R41). -/
  soLine : Bool
  /-- The MODEL's own: the platform's parameters (log 4). -/
  plat : Platform
  /-- The MODEL's own: the environment's schedule, one entry a step (log 5). -/
  env : List EnvInput
  /-- The MODEL's own: the interrupt signalled during the step now executing (log 13). -/
  during : Option Interrupt
  /-- The MODEL's own: the counter that indexes the free values (log 6). -/
  draws : Nat
deriving DecidableEq, Repr

/-- Why the machine can stop with a fault: never. The spec gives the hardware no fault of any kind (R11, R52, R53,
R90), so the type has no constructor. -/
inductive Fault
deriving DecidableEq, Repr

/-- Why a step can be refused. -/
inductive Refusal where
  /-- Raised by an arm of `exec` for an instruction that has no meaning yet; safe. No arm raises it now. -/
  | notModelled (mnemonic : String)
  /-- Raised by an access in mode `a16,X` or `a16,Y` whose un-indexed address, or whose extra read on real parts,
  falls on a device whose reads have side effects: 92_eei_decisions.md D16 says a model "must refuse" it, since the
  source's description and real parts differ there (log 8); safe. -/
  | discardedReadOfDevice
  /-- Raised by an unstable undocumented opcode where the platform's parameter `UnstableOps` says refuse: R230 lets
  "a model that must be sound for every real part refuse these opcodes instead", and R251 says the same of XAA (R5,
  D14, log 10); safe. -/
  | unstableOpcode
deriving DecidableEq, Repr

/-- The machine right after reset (R43, R290, R291): I = 1, `halted` and `nmiPending` false, `iPrev` = I, PC from
the RESET vector, which is 0x0000 while memory lists nothing (log 2). A, X, Y, S, N, V, D, Z, C are unspecified by
the spec; zero here is a DESIGN CHOICE (log 1). The platform is all RAM, leaves the set-overflow pin unused (log 4)
and executes every unstable opcode by its rule (log 10); the environment does nothing (log 5). -/
def State.reset : State where
  a := 0
  x := 0
  y := 0
  sp := 0
  pc := 0
  p := { n := false, v := false, d := false, i := true, z := false, c := false }
  mem := []
  halted := false
  nmiPending := false
  iPrev := true
  irqLine := false
  resetLine := false
  soLine := false
  plat := { memMap := [], soUsed := false, unstable := UnstableOps.byRule }
  env := []
  during := none
  draws := 0

end Sys2Proof.Machine
end

