-- ==== Sys2Proof/Machine/Flags.lean ====
section
/-! DEFINITION. The flag computations: `SetNZ`, `PImage`, `SetP` (00_scope.md R10), binary and decimal addition and
subtraction and the compare (41_arith.md R120 to R122), and the shifts and rotates of a byte (43_shift.md). -/

namespace Sys2Proof.Machine

/-- `SetNZ(v)`: N is bit 7 of `v`; Z says that `v` is 0 (R10). -/
def Status.setNZ (p : Status) (v : Byte) : Status := { p with n := v.msb, z := v == 0 }

/-- `PImage(b)`: the byte that stands for P on the stack, bit 5 always 1, bit 4 the constant `b` (R10, R33). -/
def pImage (b : Bool) (p : Status) : Byte :=
  BitVec.ofBool p.n ++ BitVec.ofBool p.v ++ 1#1 ++ BitVec.ofBool b ++ BitVec.ofBool p.d ++ BitVec.ofBool p.i ++
    BitVec.ofBool p.z ++ BitVec.ofBool p.c

/-- `SetP(v)`: the six flags from a pulled byte; bits 5 and 4 are ignored (R10, R34). -/
def statusOf (v : Byte) : Status :=
  { n := v.getLsbD 7, v := v.getLsbD 6, d := v.getLsbD 3, i := v.getLsbD 2, z := v.getLsbD 1, c := v.getLsbD 0 }

/-- Write N, V, Z and C from the result of an addition or subtraction. -/
def Status.setAlu (p : Status) (r : AluResult) : Status := { p with n := r.n, v := r.v, z := r.z, c := r.c }

/-- Whether a number fits a signed byte, -128 to +127 (R6, R120). -/
def fitsSigned (t : Int) : Bool := decide (-128 ≤ t) && decide (t ≤ 127)

/-- `AddBinary(a, m, c)` with the N and Z of its result (R120, R123). -/
def addBinary (a m : Byte) (c : Bool) : AluResult :=
  let t := a.toNat + m.toNat + bitVal c
  let r := BitVec.ofNat 8 t
  { value := r, n := r.msb, v := !fitsSigned (a.toInt + m.toInt + bitVal c), z := r == 0, c := decide (255 < t) }

/-- `SubBinary(a, m, c)` with the N and Z of its result: the borrow is the complement of `c` (R120, R124). -/
def subBinary (a m : Byte) (c : Bool) : AluResult :=
  let t : Int := a.toNat - m.toNat - (1 - bitVal c : Int)
  let r := BitVec.ofInt 8 t
  { value := r, n := r.msb, v := !fitsSigned (a.toInt - m.toInt - (1 - bitVal c : Int)), z := r == 0,
    c := decide (0 ≤ t) }

/-- Whether both nibbles of a byte are 0 to 9 (R121). -/
def validBcd (b : Byte) : Bool := decide (b.toNat / 16 ≤ 9) && decide (b.toNat % 16 ≤ 9)

/-- The number that a packed BCD byte stands for, `dec(b)` (R121). -/
def bcdValue (b : Byte) : Nat := 10 * (b.toNat / 16) + b.toNat % 16

/-- The packed BCD byte of a number 0 to 99, `bcd(n)` (R121). -/
def bcdByte (n : Nat) : Byte := BitVec.ofNat 8 (16 * (n / 10) + n % 10)

/-- `DecAdc(a, m, c)`: on valid BCD operands the byte and the carry that R121 fixes; everything else is the open
part of `DecimalALU` (log 9). -/
def decAdc (a m : Byte) (c : Bool) : AluResult :=
  let n := bcdValue a + bcdValue m + bitVal c
  if validBcd a && validBcd m then
    { Config.decAdcOpen a m c with value := bcdByte (n % 100), c := decide (99 < n) }
  else Config.decAdcOpen a m c

/-- `DecSbc(a, m, c)`: on valid BCD operands the byte and the not-borrow that R121 fixes; everything else is the
open part of `DecimalALU` (log 9). -/
def decSbc (a m : Byte) (c : Bool) : AluResult :=
  let n : Int := bcdValue a - bcdValue m - (1 - bitVal c : Int)
  if validBcd a && validBcd m then
    { Config.decSbcOpen a m c with value := bcdByte (n % 100).toNat, c := decide (0 ≤ n) }
  else Config.decSbcOpen a m c

/-- The addition of ADC and RRA: decimal when D = 1 (R123, R241). -/
def addResult (d : Bool) (a m : Byte) (c : Bool) : AluResult := if d then decAdc a m c else addBinary a m c

/-- The subtraction of SBC and ISC: decimal when D = 1 (R124, R235). -/
def subResult (d : Bool) (a m : Byte) (c : Bool) : AluResult := if d then decSbc a m c else subBinary a m c

/-- `Compare(r, m)`: C says `r >= m` as unsigned bytes; N and Z are those of the difference (R122). -/
def Status.compare (p : Status) (r m : Byte) : Status :=
  { p.setNZ (r - m) with c := decide (m.toNat ≤ r.toNat) }

/-- ASL of a byte: the result and the carry out (R141). -/
def aslByte (v : Byte) : Byte × Bool := (v <<< 1, v.getLsbD 7)

/-- LSR of a byte: the result and the carry out (R142). -/
def lsrByte (v : Byte) : Byte × Bool := (v >>> 1, v.getLsbD 0)

/-- ROL of a byte: the input carry enters bit 0 (R143). -/
def rolByte (v : Byte) (c : Bool) : Byte × Bool := ((v <<< 1) ||| BitVec.ofNat 8 (bitVal c), v.getLsbD 7)

/-- ROR of a byte: the input carry enters bit 7 (R144). -/
def rorByte (v : Byte) (c : Bool) : Byte × Bool :=
  ((v >>> 1) ||| (BitVec.ofNat 8 (bitVal c) <<< 7), v.getLsbD 0)

end Sys2Proof.Machine
end

