-- ==== Sys2Proof/Machine/Ops.lean ====
section
/-! DEFINITION. The named operations over memory and registers: the two memory primitives (20_memory.md R52, R53),
the stack (10_state.md R27), the end of an instruction, and the sequences by which an exception is taken and left
(60_exceptions.md R262, 45_control.md R173, 70_reset_and_hazards.md R290). -/

namespace Sys2Proof.Machine

/-- A meaning answers a next state or a refusal; the hardware has no fault (R11). -/
abbrev Result := Host.Outcome State Fault Refusal

/-! ### Stored bytes -/

/-- What an address that memory does not list reads as. The spec leaves memory at power-on unspecified (R43);
0x00 is a DESIGN CHOICE (log 2). -/
def Memory.unlisted : Byte := 0

/-- The stored byte at an address. -/
def Memory.get : List Host.Cell → Nat → Byte
  | [], _ => Memory.unlisted
  | (k, w) :: t, a => if a = k then w else Memory.get t a

/-- Store a byte at an address, keeping the cells in rising order and listing no cell that reads as unlisted. -/
def Memory.put : List Host.Cell → Nat → Byte → List Host.Cell
  | [], a, v => if v = Memory.unlisted then [] else [(a, v)]
  | (k, w) :: t, a, v =>
    if a < k then (if v = Memory.unlisted then (k, w) :: t else (a, v) :: (k, w) :: t)
    else if a = k then (if v = Memory.unlisted then t else (a, v) :: t)
    else (k, w) :: Memory.put t a v

/-- The cells stand at rising addresses from `from` on, inside the address space, and none reads as unlisted. -/
def Memory.wfFrom (from_ : Nat) : List Host.Cell → Bool
  | [] => true
  | (k, w) :: t => decide (from_ ≤ k) && decide (k < 65536) && decide (w ≠ Memory.unlisted) && Memory.wfFrom (k + 1) t

/-- The one canonical form of memory, so that equal memories are equal lists. -/
def Memory.wf (m : List Host.Cell) : Bool := Memory.wfFrom 0 m

/-- The byte that memory stores at an address, whatever the platform answers there. -/
def State.byteAt (a : Addr) (s : State) : Byte := Memory.get s.mem a.toNat

/-! ### The platform's memory map and the two primitives -/

/-- What `MemMap` says of an address: the first region that holds it; RAM where none does (R52, D12, log 4). -/
def kindAt (p : Platform) (a : Addr) : RegionKind :=
  match p.memMap.find? fun r => decide (r.lo ≤ a.toNat) && decide (a.toNat ≤ r.hi) with
  | some r => r.kind
  | none => .ram

/-- `MemRead(a, 1)`, for the use `d` (R52): RAM and ROM give the stored byte; an unmapped address and a device give
a free byte (D12, R67, log 7). A read never faults and changes no state of the machine. -/
def State.read (d : Draw) (a : Addr) (s : State) : Byte :=
  match kindAt s.plat a with
  | .ram | .rom => s.byteAt a
  | .device _ | .unmapped => Config.freeByte s.draws d

/-- `MemWrite(a, 1, v)` (R53): RAM stores the byte; ROM, unmapped addresses and devices leave memory as it is. A
write never faults. -/
def State.write (a : Addr) (v : Byte) (s : State) : State :=
  match kindAt s.plat a with
  | .ram => { s with mem := Memory.put s.mem a.toNat v }
  | .rom | .device _ | .unmapped => s

/-- Two bytes at a vector, low byte first (R54, R263). -/
def State.readVector (v : Addr) (s : State) : Addr := join (s.read .vectorHigh (v + 1)) (s.read .vectorLow v)

/-- The vector addresses (R51, R263). -/
def nmiVector : Addr := 0xFFFA
/-- The RESET vector (R51, R263). -/
def resetVector : Addr := 0xFFFC
/-- The vector IRQ and BRK share (R51, R263). -/
def irqVector : Addr := 0xFFFE

/-! ### The stack -/

/-- The stack is page one (R27, D1). -/
def stackAddr (b : Byte) : Addr := join 0x01 b

/-- `Push(v)`: write, then decrement S modulo 256 (R10, R25, R27). -/
def State.push (v : Byte) (s : State) : State := { s.write (stackAddr s.sp) v with sp := s.sp - 1 }

/-- The `k`-th byte that successive pulls from `s` read (R27): a pull increments S, then reads. -/
def State.pulled (d : Draw) (k : Nat) (s : State) : Byte := s.read d (stackAddr (s.sp + BitVec.ofNat 8 k))

/-! ### The end of an instruction -/

/-- What every instruction and sequence does besides its own effect: PC takes its new value, `iPrev` becomes the
current I (R40; CLI, SEI and PLP set it otherwise), and the free values of the next step are new ones (log 6). -/
def State.endAt (pc : Addr) (s : State) : State := { s with pc := pc, iPrev := s.p.i, draws := s.draws + 1 }

/-- The end of an instruction of `len` bytes that transfers no control: `PC <- (pc0 + len) mod 65536` (R12, R26). -/
def State.retire (len : Nat) (s : State) : State := s.endAt (s.pc + BitVec.ofNat 16 len)

/-! ### Taking an exception and returning from one -/

/-- `InterruptSequence(ret, vector, b)` (R262): push the high and the low byte of the return address and the image
of P as it is before I is set; set I; load PC from the vector. -/
def State.interruptSequence (ret vector : Addr) (b : Bool) (s : State) : State :=
  let t := ((s.push (hi ret)).push (lo ret)).push (pImage b s.p)
  let u := { t with p := { t.p with i := true } }
  u.endAt (u.readVector vector)

/-- Return from an interrupt: pull P, then PC low, then PC high; the pulled I counts at once (R173, R273). -/
def State.returnFromInterrupt (s : State) : State :=
  let t := { s with p := statusOf (s.pulled .pull1 1), sp := s.sp + 3 }
  t.endAt (join (s.pulled .pull3 3) (s.pulled .pull2 2))

/-- `ResetSequence()` (R290): leave the halt, forget a latched NMI, set I, load PC from the RESET vector; A, X, Y,
S and the other flags take any value (`ResetDraw`, log 15). Memory is not written and nothing is pushed. -/
def State.resetSequence (s : State) : State :=
  let t := { s with
    halted := false
    nmiPending := false
    a := Config.freeByte s.draws .resetA
    x := Config.freeByte s.draws .resetX
    y := Config.freeByte s.draws .resetY
    sp := Config.freeByte s.draws .resetS
    p := { n := Config.freeBit s.draws .resetN, v := Config.freeBit s.draws .resetV,
           d := Config.freeBit s.draws .resetD, i := true,
           z := Config.freeBit s.draws .resetZ, c := Config.freeBit s.draws .resetC } }
  t.endAt (s.readVector resetVector)

end Sys2Proof.Machine
end

