-- ==== Sys2Proof/Machine/Operands.lean ====
section
/-! DEFINITION. The addressing modes (40_addressing_modes.md R100 to R113) and the operand access by instruction
class (R114): read, write, read/modify/write, and the two accumulator and implied forms. No mode modifies a register
or reads or writes a flag (R100). -/

namespace Sys2Proof.Machine

/-- The un-indexed 16-bit address of a memory mode, the spec's `base` (R108, R110, R111, R115); for the modes
without a 16-bit index it is the effective address itself. Every read stays in the page the rule says (R107, R108). -/
def baseAddr (m : MemMode) (s : State) : Addr :=
  match m with
  | .zp b1 => zext b1
  | .zpX b1 => zext (b1 + s.x)
  | .zpY b1 => zext (b1 + s.y)
  | .indX b1 => join (s.read .pointerHigh (zext (b1 + s.x + 1))) (s.read .pointerLow (zext (b1 + s.x)))
  | .indY b1 => join (s.read .pointerHigh (zext (b1 + 1))) (s.read .pointerLow (zext b1))
  | .abs b1 b2 | .absX b1 b2 | .absY b1 b2 => join b2 b1

/-- The effective address of a memory mode, modulo 65536 (R104 to R111). -/
def effAddr (m : MemMode) (s : State) : Addr :=
  match m with
  | .absX _ _ => baseAddr m s + zext s.x
  | .absY _ _ | .indY _ => baseAddr m s + zext s.y
  | .zp _ | .zpX _ | .zpY _ | .indX _ | .abs _ _ => baseAddr m s

/-- The target of `(a16)`: the pointer's high byte comes from the same page (R112). -/
def indirectTarget (b1 b2 : Byte) (s : State) : Addr :=
  let ptr := join b2 b1
  join (s.read .pointerHigh (nextInPage ptr)) (s.read .pointerLow ptr)

/-- The target of `r8`: the sign-extended offset from the next instruction, modulo 65536 (R113). -/
def branchTarget (b1 : Byte) (s : State) : Addr := s.pc + 2 + sext b1

/-- Whether an access in a memory mode crosses a page (R115). -/
def crossesPage (m : MemMode) (s : State) : Bool := hi (effAddr m s) != hi (baseAddr m s)

/-- What an instruction does at its effective address (R114). -/
inductive AccessClass where
  | read
  | write
  | readModifyWrite
deriving DecidableEq, Repr

/-- Whether a read at an address can have a side effect in a device (R52, R58). -/
def readHasEffect (a : Addr) (s : State) : Bool :=
  match kindAt s.plat a with
  | .device e => e
  | .ram | .rom | .unmapped => false

/-- Where real parts make the extra read of an indexed absolute access (93_implementation_defined.md U13 (b)): the
un-carried address; a read makes it only when a page is crossed, a write or read/modify/write always. -/
def realDummyAddr (c : AccessClass) (m : MemMode) (s : State) : Option Addr :=
  if c = .read ∧ crossesPage m s = false then none
  else some (join (hi (baseAddr m s)) (lo (effAddr m s)))

/-- Whether 92_eei_decisions.md D16 has a model refuse the access: mode `a16,X` or `a16,Y`, and the un-indexed
address or the real parts' extra read falls on an address whose reads have side effects (R58, R110, R111, log 8). -/
def discardedReadBlocked (c : AccessClass) (m : MemMode) (s : State) : Bool :=
  match m with
  | .absX _ _ | .absY _ _ =>
    readHasEffect (baseAddr m s) s ||
      (match realDummyAddr c m s with
       | some a => readHasEffect a s
       | none => false)
  | .zp _ | .zpX _ | .zpY _ | .indX _ | .indY _ | .abs _ _ => false

/-- The operand byte `M` of class read (R103, R114). -/
def sourceValue (src : Source) (s : State) : Byte :=
  match src with
  | .immediate b1 => b1
  | .memory m => s.read .data (effAddr m s)

/-- Whether D16 refuses the read of an operand; an immediate operand makes no access (R103). -/
def sourceBlocked (src : Source) (s : State) : Bool :=
  match src with
  | .immediate _ => false
  | .memory m => discardedReadBlocked .read m s

/-- An instruction of class read: `f` is its effect, given the operand byte (R114). -/
def readClass (src : Source) (f : Byte → State → State) (s : State) : Result :=
  if sourceBlocked src s then .refused .discardedReadOfDevice
  else .next ((f (sourceValue src s) s).retire src.length)

/-- An instruction of class write: it stores `v` at the effective address; the old content is not read (R114). -/
def writeClass (m : MemMode) (v : Byte) (s : State) : Result :=
  if discardedReadBlocked .write m s then .refused .discardedReadOfDevice
  else .next ((s.write (effAddr m s) v).retire m.length)

/-- An instruction of class read/modify/write: `f` gives, from the byte read, the byte to write back and the effect
on the registers and flags (R59, R114). One read and one write, both at the effective address. -/
def rmwClass (m : MemMode) (f : Byte → State → Byte × State) (s : State) : Result :=
  if discardedReadBlocked .readModifyWrite m s then .refused .discardedReadOfDevice
  else
    let ea := effAddr m s
    let r := f (s.read .data ea) s
    .next ((r.2.write ea r.1).retire m.length)

/-- What an unstable undocumented opcode does under the parameter `UnstableOps`: its rule, its rule with a draw, or a
refusal (R5, R230, R251, D14, log 10). -/
def byUnstableUse (u : UnstableUse) (byRule byDraw : Result) : Result :=
  match u with
  | .rule => byRule
  | .draw => byDraw
  | .refuse => .refused .unstableOpcode

/-- The draw of an unstable opcode (R5, log 6). -/
def State.unstableByte (s : State) : Byte := Config.freeByte s.draws .unstable

/-- An instruction in mode `A`: the operand is A and so is the place of the result (R102, R114, R140). -/
def accumulatorClass (f : Byte → State → Byte × State) (s : State) : Result :=
  let r := f s.a s
  .next ({ r.2 with a := r.1 }.retire 1)

/-- An instruction in mode `-` that transfers no control (R101). -/
def impliedClass (f : State → State) (s : State) : Result := .next ((f s).retire 1)

end Sys2Proof.Machine
end

