-- ==== Sys2Proof/Machine/Arith.lean ====
section
/-! DEFINITION. Arithmetic instructions ADC, SBC, CMP, CPX, CPY (41_arith.md R123 to R127). -/

namespace Sys2Proof.Machine

/-- The effect of ADC (R123). -/
def State.adc (m : Byte) (s : State) : State :=
  let r := addResult s.p.d s.a m s.p.c
  { s with a := r.value, p := s.p.setAlu r }

/-- The effect of SBC (R124). -/
def State.sbc (m : Byte) (s : State) : State :=
  let r := subResult s.p.d s.a m s.p.c
  { s with a := r.value, p := s.p.setAlu r }

/-- The effect of CMP (R125). -/
def State.cmp (m : Byte) (s : State) : State := { s with p := s.p.compare s.a m }

/-- The effect of CPX (R126). -/
def State.cpx (m : Byte) (s : State) : State := { s with p := s.p.compare s.x m }

/-- The effect of CPY (R127). -/
def State.cpy (m : Byte) (s : State) : State := { s with p := s.p.compare s.y m }

/-- ADC (a8,X), opcode 61 (R123, R107). -/
def execAdcIndX (b1 : Byte) (s : State) : Result :=
  readClass (.memory (.indX b1)) State.adc s

/-- ADC a8, opcode 65 (R123, R104). -/
def execAdcZp (b1 : Byte) (s : State) : Result :=
  readClass (.memory (.zp b1)) State.adc s

/-- ADC #d8, opcode 69 (R123, R103). -/
def execAdcImm (b1 : Byte) (s : State) : Result :=
  readClass (.immediate b1) State.adc s

/-- ADC a16, opcode 6D (R123, R109). -/
def execAdcAbs (b1 b2 : Byte) (s : State) : Result :=
  readClass (.memory (.abs b1 b2)) State.adc s

/-- ADC (a8),Y, opcode 71 (R123, R108). -/
def execAdcIndY (b1 : Byte) (s : State) : Result :=
  readClass (.memory (.indY b1)) State.adc s

/-- ADC a8,X, opcode 75 (R123, R105). -/
def execAdcZpX (b1 : Byte) (s : State) : Result :=
  readClass (.memory (.zpX b1)) State.adc s

/-- ADC a16,Y, opcode 79 (R123, R111). -/
def execAdcAbsY (b1 b2 : Byte) (s : State) : Result :=
  readClass (.memory (.absY b1 b2)) State.adc s

/-- ADC a16,X, opcode 7D (R123, R110). -/
def execAdcAbsX (b1 b2 : Byte) (s : State) : Result :=
  readClass (.memory (.absX b1 b2)) State.adc s

/-- CPY #d8, opcode C0 (R127, R103). -/
def execCpyImm (b1 : Byte) (s : State) : Result :=
  readClass (.immediate b1) State.cpy s

/-- CMP (a8,X), opcode C1 (R125, R107). -/
def execCmpIndX (b1 : Byte) (s : State) : Result :=
  readClass (.memory (.indX b1)) State.cmp s

/-- CPY a8, opcode C4 (R127, R104). -/
def execCpyZp (b1 : Byte) (s : State) : Result :=
  readClass (.memory (.zp b1)) State.cpy s

/-- CMP a8, opcode C5 (R125, R104). -/
def execCmpZp (b1 : Byte) (s : State) : Result :=
  readClass (.memory (.zp b1)) State.cmp s

/-- CMP #d8, opcode C9 (R125, R103). -/
def execCmpImm (b1 : Byte) (s : State) : Result :=
  readClass (.immediate b1) State.cmp s

/-- CPY a16, opcode CC (R127, R109). -/
def execCpyAbs (b1 b2 : Byte) (s : State) : Result :=
  readClass (.memory (.abs b1 b2)) State.cpy s

/-- CMP a16, opcode CD (R125, R109). -/
def execCmpAbs (b1 b2 : Byte) (s : State) : Result :=
  readClass (.memory (.abs b1 b2)) State.cmp s

/-- CMP (a8),Y, opcode D1 (R125, R108). -/
def execCmpIndY (b1 : Byte) (s : State) : Result :=
  readClass (.memory (.indY b1)) State.cmp s

/-- CMP a8,X, opcode D5 (R125, R105). -/
def execCmpZpX (b1 : Byte) (s : State) : Result :=
  readClass (.memory (.zpX b1)) State.cmp s

/-- CMP a16,Y, opcode D9 (R125, R111). -/
def execCmpAbsY (b1 b2 : Byte) (s : State) : Result :=
  readClass (.memory (.absY b1 b2)) State.cmp s

/-- CMP a16,X, opcode DD (R125, R110). -/
def execCmpAbsX (b1 b2 : Byte) (s : State) : Result :=
  readClass (.memory (.absX b1 b2)) State.cmp s

/-- CPX #d8, opcode E0 (R126, R103). -/
def execCpxImm (b1 : Byte) (s : State) : Result :=
  readClass (.immediate b1) State.cpx s

/-- SBC (a8,X), opcode E1 (R124, R107). -/
def execSbcIndX (b1 : Byte) (s : State) : Result :=
  readClass (.memory (.indX b1)) State.sbc s

/-- CPX a8, opcode E4 (R126, R104). -/
def execCpxZp (b1 : Byte) (s : State) : Result :=
  readClass (.memory (.zp b1)) State.cpx s

/-- SBC a8, opcode E5 (R124, R104). -/
def execSbcZp (b1 : Byte) (s : State) : Result :=
  readClass (.memory (.zp b1)) State.sbc s

/-- SBC #d8, opcode E9 (R124, R103). -/
def execSbcImm (b1 : Byte) (s : State) : Result :=
  readClass (.immediate b1) State.sbc s

/-- CPX a16, opcode EC (R126, R109). -/
def execCpxAbs (b1 b2 : Byte) (s : State) : Result :=
  readClass (.memory (.abs b1 b2)) State.cpx s

/-- SBC a16, opcode ED (R124, R109). -/
def execSbcAbs (b1 b2 : Byte) (s : State) : Result :=
  readClass (.memory (.abs b1 b2)) State.sbc s

/-- SBC (a8),Y, opcode F1 (R124, R108). -/
def execSbcIndY (b1 : Byte) (s : State) : Result :=
  readClass (.memory (.indY b1)) State.sbc s

/-- SBC a8,X, opcode F5 (R124, R105). -/
def execSbcZpX (b1 : Byte) (s : State) : Result :=
  readClass (.memory (.zpX b1)) State.sbc s

/-- SBC a16,Y, opcode F9 (R124, R111). -/
def execSbcAbsY (b1 b2 : Byte) (s : State) : Result :=
  readClass (.memory (.absY b1 b2)) State.sbc s

/-- SBC a16,X, opcode FD (R124, R110). -/
def execSbcAbsX (b1 b2 : Byte) (s : State) : Result :=
  readClass (.memory (.absX b1 b2)) State.sbc s

end Sys2Proof.Machine
end

