-- ==== Sys2Proof/Machine/Branch.lean ====
section
/-! DEFINITION. The eight conditional branches (44_branch.md R150 to R158). -/

namespace Sys2Proof.Machine

/-- The common rule of the branches: PC and nothing else is written (R150). -/
def branchIf (cond : Bool) (b1 : Byte) (s : State) : Result :=
  .next (s.endAt (if cond then branchTarget b1 s else s.pc + 2))

/-- BPL r8, opcode 10 (R156, R113). -/
def execBpl (b1 : Byte) (s : State) : Result :=
  branchIf (!s.p.n) b1 s

/-- BMI r8, opcode 30 (R154, R113). -/
def execBmi (b1 : Byte) (s : State) : Result :=
  branchIf s.p.n b1 s

/-- BVC r8, opcode 50 (R157, R113). -/
def execBvc (b1 : Byte) (s : State) : Result :=
  branchIf (!s.p.v) b1 s

/-- BVS r8, opcode 70 (R158, R113). -/
def execBvs (b1 : Byte) (s : State) : Result :=
  branchIf s.p.v b1 s

/-- BCC r8, opcode 90 (R151, R113). -/
def execBcc (b1 : Byte) (s : State) : Result :=
  branchIf (!s.p.c) b1 s

/-- BCS r8, opcode B0 (R152, R113). -/
def execBcs (b1 : Byte) (s : State) : Result :=
  branchIf s.p.c b1 s

/-- BNE r8, opcode D0 (R155, R113). -/
def execBne (b1 : Byte) (s : State) : Result :=
  branchIf (!s.p.z) b1 s

/-- BEQ r8, opcode F0 (R153, R113). -/
def execBeq (b1 : Byte) (s : State) : Result :=
  branchIf s.p.z b1 s

end Sys2Proof.Machine
end

