-- ==== Sys2Proof/Machine/Control.lean ====
section
/-! DEFINITION. Control transfer instructions BRK, JMP, JSR, RTI, RTS (45_control.md R170 to R174). -/

namespace Sys2Proof.Machine

/-- The interrupt that collides with a BRK executed now: one the environment signals during it, an IRQ only if I
was 0 before the BRK (R271, log 13). -/
def brkCollision (s : State) : Option Interrupt :=
  match s.during with
  | some .irq => if s.p.i then none else some .irq
  | some .nmi => some .nmi
  | none => none

/-- BRK: the interrupt sequence through the IRQ vector with B = 1 (R170); if an interrupt collides with it, that
interrupt's vector and a free bit 4 (R271). The return address is `pc0 + 2` in every case. -/
def State.brk (s : State) : State :=
  let ret := s.pc + 2
  match brkCollision s with
  | none => s.interruptSequence ret irqVector true
  | some .irq => s.interruptSequence ret irqVector (Config.freeBit s.draws .collisionB)
  | some .nmi =>
    { s with nmiPending := false }.interruptSequence ret nmiVector (Config.freeBit s.draws .collisionB)

/-- JSR: push the address of the last byte of the instruction, high byte first, and jump (R172). -/
def State.jsr (target : Addr) (s : State) : State :=
  let ret := s.pc + 2
  ((s.push (hi ret)).push (lo ret)).endAt target

/-- RTS: pull PC low, then PC high, and add 1 (R174). -/
def State.rts (s : State) : State :=
  { s with sp := s.sp + 2 }.endAt (join (s.pulled .pull2 2) (s.pulled .pull1 1) + 1)

/-- BRK implied, opcode 00 (R170). -/
def execBrk (s : State) : Result :=
  .next s.brk

/-- JSR a16, opcode 20 (R172, R109). -/
def execJsrAbs (b1 b2 : Byte) (s : State) : Result :=
  .next (s.jsr (join b2 b1))

/-- RTI implied, opcode 40 (R173). -/
def execRti (s : State) : Result :=
  .next s.returnFromInterrupt

/-- JMP a16, opcode 4C (R171, R109). -/
def execJmpAbs (b1 b2 : Byte) (s : State) : Result :=
  .next (s.endAt (join b2 b1))

/-- RTS implied, opcode 60 (R174). -/
def execRts (s : State) : Result :=
  .next s.rts

/-- JMP (a16), opcode 6C (R171, R112). -/
def execJmpInd (b1 b2 : Byte) (s : State) : Result :=
  .next (s.endAt (indirectTarget b1 b2 s))

end Sys2Proof.Machine
end

