-- ==== Sys2Proof/Machine/FlagOps.lean ====
section
/-! DEFINITION. The flag instructions and NOP (46_flags_nop.md R180 to R187). -/

namespace Sys2Proof.Machine

/-- The end of CLI, SEI and PLP: for one boundary `iPrev` holds the I from before the instruction (R40, R270). -/
def State.retireDeferring (old : Bool) (len : Nat) (s : State) : State := { s.retire len with iPrev := old }

/-- CLC implied, opcode 18 (R180). -/
def execClc (s : State) : Result :=
  impliedClass (fun t => { t with p := { t.p with c := false } }) s

/-- SEC implied, opcode 38 (R184). -/
def execSec (s : State) : Result :=
  impliedClass (fun t => { t with p := { t.p with c := true } }) s

/-- CLI implied, opcode 58 (R182). -/
def execCli (s : State) : Result :=
  .next ({ s with p := { s.p with i := false } }.retireDeferring s.p.i 1)

/-- SEI implied, opcode 78 (R186). -/
def execSei (s : State) : Result :=
  .next ({ s with p := { s.p with i := true } }.retireDeferring s.p.i 1)

/-- CLV implied, opcode B8 (R183). -/
def execClv (s : State) : Result :=
  impliedClass (fun t => { t with p := { t.p with v := false } }) s

/-- CLD implied, opcode D8 (R181). -/
def execCld (s : State) : Result :=
  impliedClass (fun t => { t with p := { t.p with d := false } }) s

/-- NOP implied, opcode EA (R187). -/
def execNop (s : State) : Result :=
  impliedClass id s

/-- SED implied, opcode F8 (R185). -/
def execSed (s : State) : Result :=
  impliedClass (fun t => { t with p := { t.p with d := true } }) s

end Sys2Proof.Machine
end

