-- ==== Sys2Proof/Machine/IncDec.lean ====
section
/-! DEFINITION. Increment and decrement instructions (47_incdec.md R190 to R195): binary, modulo 256, N and Z only. -/

namespace Sys2Proof.Machine

/-- Write back `v` and set N and Z from it (R190, R193). -/
def State.resultNZ (v : Byte) (s : State) : Byte × State := (v, { s with p := s.p.setNZ v })

/-- DEY implied, opcode 88 (R192). -/
def execDey (s : State) : Result :=
  impliedClass (fun t => { t with y := t.y - 1, p := t.p.setNZ (t.y - 1) }) s

/-- DEC a8, opcode C6 (R190, R104). -/
def execDecZp (b1 : Byte) (s : State) : Result :=
  rmwClass (.zp b1) (fun v t => t.resultNZ (v - 1)) s

/-- INY implied, opcode C8 (R195). -/
def execIny (s : State) : Result :=
  impliedClass (fun t => { t with y := t.y + 1, p := t.p.setNZ (t.y + 1) }) s

/-- DEX implied, opcode CA (R191). -/
def execDex (s : State) : Result :=
  impliedClass (fun t => { t with x := t.x - 1, p := t.p.setNZ (t.x - 1) }) s

/-- DEC a16, opcode CE (R190, R109). -/
def execDecAbs (b1 b2 : Byte) (s : State) : Result :=
  rmwClass (.abs b1 b2) (fun v t => t.resultNZ (v - 1)) s

/-- DEC a8,X, opcode D6 (R190, R105). -/
def execDecZpX (b1 : Byte) (s : State) : Result :=
  rmwClass (.zpX b1) (fun v t => t.resultNZ (v - 1)) s

/-- DEC a16,X, opcode DE (R190, R110). -/
def execDecAbsX (b1 b2 : Byte) (s : State) : Result :=
  rmwClass (.absX b1 b2) (fun v t => t.resultNZ (v - 1)) s

/-- INC a8, opcode E6 (R193, R104). -/
def execIncZp (b1 : Byte) (s : State) : Result :=
  rmwClass (.zp b1) (fun v t => t.resultNZ (v + 1)) s

/-- INX implied, opcode E8 (R194). -/
def execInx (s : State) : Result :=
  impliedClass (fun t => { t with x := t.x + 1, p := t.p.setNZ (t.x + 1) }) s

/-- INC a16, opcode EE (R193, R109). -/
def execIncAbs (b1 b2 : Byte) (s : State) : Result :=
  rmwClass (.abs b1 b2) (fun v t => t.resultNZ (v + 1)) s

/-- INC a8,X, opcode F6 (R193, R105). -/
def execIncZpX (b1 : Byte) (s : State) : Result :=
  rmwClass (.zpX b1) (fun v t => t.resultNZ (v + 1)) s

/-- INC a16,X, opcode FE (R193, R110). -/
def execIncAbsX (b1 b2 : Byte) (s : State) : Result :=
  rmwClass (.absX b1 b2) (fun v t => t.resultNZ (v + 1)) s

end Sys2Proof.Machine
end

