-- ==== Sys2Proof/Machine/Load.lean ====
section
/-! DEFINITION. Load and store instructions LDA, LDX, LDY, STA, STX, STY (48_load_stack_transfer.md R200 to R205). -/

namespace Sys2Proof.Machine

/-- The effect of LDA (R200). -/
def State.lda (m : Byte) (s : State) : State := { s with a := m, p := s.p.setNZ m }

/-- The effect of LDX (R201). -/
def State.ldx (m : Byte) (s : State) : State := { s with x := m, p := s.p.setNZ m }

/-- The effect of LDY (R202). -/
def State.ldy (m : Byte) (s : State) : State := { s with y := m, p := s.p.setNZ m }

/-- STA (a8,X), opcode 81 (R203, R107). -/
def execStaIndX (b1 : Byte) (s : State) : Result :=
  writeClass (.indX b1) s.a s

/-- STY a8, opcode 84 (R205, R104). -/
def execStyZp (b1 : Byte) (s : State) : Result :=
  writeClass (.zp b1) s.y s

/-- STA a8, opcode 85 (R203, R104). -/
def execStaZp (b1 : Byte) (s : State) : Result :=
  writeClass (.zp b1) s.a s

/-- STX a8, opcode 86 (R204, R104). -/
def execStxZp (b1 : Byte) (s : State) : Result :=
  writeClass (.zp b1) s.x s

/-- STY a16, opcode 8C (R205, R109). -/
def execStyAbs (b1 b2 : Byte) (s : State) : Result :=
  writeClass (.abs b1 b2) s.y s

/-- STA a16, opcode 8D (R203, R109). -/
def execStaAbs (b1 b2 : Byte) (s : State) : Result :=
  writeClass (.abs b1 b2) s.a s

/-- STX a16, opcode 8E (R204, R109). -/
def execStxAbs (b1 b2 : Byte) (s : State) : Result :=
  writeClass (.abs b1 b2) s.x s

/-- STA (a8),Y, opcode 91 (R203, R108). -/
def execStaIndY (b1 : Byte) (s : State) : Result :=
  writeClass (.indY b1) s.a s

/-- STY a8,X, opcode 94 (R205, R105). -/
def execStyZpX (b1 : Byte) (s : State) : Result :=
  writeClass (.zpX b1) s.y s

/-- STA a8,X, opcode 95 (R203, R105). -/
def execStaZpX (b1 : Byte) (s : State) : Result :=
  writeClass (.zpX b1) s.a s

/-- STX a8,Y, opcode 96 (R204, R106). -/
def execStxZpY (b1 : Byte) (s : State) : Result :=
  writeClass (.zpY b1) s.x s

/-- STA a16,Y, opcode 99 (R203, R111). -/
def execStaAbsY (b1 b2 : Byte) (s : State) : Result :=
  writeClass (.absY b1 b2) s.a s

/-- STA a16,X, opcode 9D (R203, R110). -/
def execStaAbsX (b1 b2 : Byte) (s : State) : Result :=
  writeClass (.absX b1 b2) s.a s

/-- LDY #d8, opcode A0 (R202, R103). -/
def execLdyImm (b1 : Byte) (s : State) : Result :=
  readClass (.immediate b1) State.ldy s

/-- LDA (a8,X), opcode A1 (R200, R107). -/
def execLdaIndX (b1 : Byte) (s : State) : Result :=
  readClass (.memory (.indX b1)) State.lda s

/-- LDX #d8, opcode A2 (R201, R103). -/
def execLdxImm (b1 : Byte) (s : State) : Result :=
  readClass (.immediate b1) State.ldx s

/-- LDY a8, opcode A4 (R202, R104). -/
def execLdyZp (b1 : Byte) (s : State) : Result :=
  readClass (.memory (.zp b1)) State.ldy s

/-- LDA a8, opcode A5 (R200, R104). -/
def execLdaZp (b1 : Byte) (s : State) : Result :=
  readClass (.memory (.zp b1)) State.lda s

/-- LDX a8, opcode A6 (R201, R104). -/
def execLdxZp (b1 : Byte) (s : State) : Result :=
  readClass (.memory (.zp b1)) State.ldx s

/-- LDA #d8, opcode A9 (R200, R103). -/
def execLdaImm (b1 : Byte) (s : State) : Result :=
  readClass (.immediate b1) State.lda s

/-- LDY a16, opcode AC (R202, R109). -/
def execLdyAbs (b1 b2 : Byte) (s : State) : Result :=
  readClass (.memory (.abs b1 b2)) State.ldy s

/-- LDA a16, opcode AD (R200, R109). -/
def execLdaAbs (b1 b2 : Byte) (s : State) : Result :=
  readClass (.memory (.abs b1 b2)) State.lda s

/-- LDX a16, opcode AE (R201, R109). -/
def execLdxAbs (b1 b2 : Byte) (s : State) : Result :=
  readClass (.memory (.abs b1 b2)) State.ldx s

/-- LDA (a8),Y, opcode B1 (R200, R108). -/
def execLdaIndY (b1 : Byte) (s : State) : Result :=
  readClass (.memory (.indY b1)) State.lda s

/-- LDY a8,X, opcode B4 (R202, R105). -/
def execLdyZpX (b1 : Byte) (s : State) : Result :=
  readClass (.memory (.zpX b1)) State.ldy s

/-- LDA a8,X, opcode B5 (R200, R105). -/
def execLdaZpX (b1 : Byte) (s : State) : Result :=
  readClass (.memory (.zpX b1)) State.lda s

/-- LDX a8,Y, opcode B6 (R201, R106). -/
def execLdxZpY (b1 : Byte) (s : State) : Result :=
  readClass (.memory (.zpY b1)) State.ldx s

/-- LDA a16,Y, opcode B9 (R200, R111). -/
def execLdaAbsY (b1 b2 : Byte) (s : State) : Result :=
  readClass (.memory (.absY b1 b2)) State.lda s

/-- LDY a16,X, opcode BC (R202, R110). -/
def execLdyAbsX (b1 b2 : Byte) (s : State) : Result :=
  readClass (.memory (.absX b1 b2)) State.ldy s

/-- LDA a16,X, opcode BD (R200, R110). -/
def execLdaAbsX (b1 b2 : Byte) (s : State) : Result :=
  readClass (.memory (.absX b1 b2)) State.lda s

/-- LDX a16,Y, opcode BE (R201, R111). -/
def execLdxAbsY (b1 b2 : Byte) (s : State) : Result :=
  readClass (.memory (.absY b1 b2)) State.ldx s

end Sys2Proof.Machine
end

