-- ==== Sys2Proof/Machine/Logic.lean ====
section
/-! DEFINITION. Logic instructions AND, ORA, EOR, BIT (42_logic.md R130 to R133). -/

namespace Sys2Proof.Machine

/-- Write a byte to A and set N and Z from it. -/
def State.setA (v : Byte) (s : State) : State := { s with a := v, p := s.p.setNZ v }

/-- The effect of AND (R130). -/
def State.andA (m : Byte) (s : State) : State := s.setA (s.a &&& m)

/-- The effect of ORA (R131). -/
def State.oraA (m : Byte) (s : State) : State := s.setA (s.a ||| m)

/-- The effect of EOR (R132). -/
def State.eorA (m : Byte) (s : State) : State := s.setA (s.a ^^^ m)

/-- The effect of BIT: N and V come from the operand alone, Z from its AND with A (R133). -/
def State.bitTest (m : Byte) (s : State) : State :=
  { s with p := { s.p with n := m.getLsbD 7, v := m.getLsbD 6, z := (s.a &&& m) == 0 } }

/-- ORA (a8,X), opcode 01 (R131, R107). -/
def execOraIndX (b1 : Byte) (s : State) : Result :=
  readClass (.memory (.indX b1)) State.oraA s

/-- ORA a8, opcode 05 (R131, R104). -/
def execOraZp (b1 : Byte) (s : State) : Result :=
  readClass (.memory (.zp b1)) State.oraA s

/-- ORA #d8, opcode 09 (R131, R103). -/
def execOraImm (b1 : Byte) (s : State) : Result :=
  readClass (.immediate b1) State.oraA s

/-- ORA a16, opcode 0D (R131, R109). -/
def execOraAbs (b1 b2 : Byte) (s : State) : Result :=
  readClass (.memory (.abs b1 b2)) State.oraA s

/-- ORA (a8),Y, opcode 11 (R131, R108). -/
def execOraIndY (b1 : Byte) (s : State) : Result :=
  readClass (.memory (.indY b1)) State.oraA s

/-- ORA a8,X, opcode 15 (R131, R105). -/
def execOraZpX (b1 : Byte) (s : State) : Result :=
  readClass (.memory (.zpX b1)) State.oraA s

/-- ORA a16,Y, opcode 19 (R131, R111). -/
def execOraAbsY (b1 b2 : Byte) (s : State) : Result :=
  readClass (.memory (.absY b1 b2)) State.oraA s

/-- ORA a16,X, opcode 1D (R131, R110). -/
def execOraAbsX (b1 b2 : Byte) (s : State) : Result :=
  readClass (.memory (.absX b1 b2)) State.oraA s

/-- AND (a8,X), opcode 21 (R130, R107). -/
def execAndIndX (b1 : Byte) (s : State) : Result :=
  readClass (.memory (.indX b1)) State.andA s

/-- BIT a8, opcode 24 (R133, R104). -/
def execBitZp (b1 : Byte) (s : State) : Result :=
  readClass (.memory (.zp b1)) State.bitTest s

/-- AND a8, opcode 25 (R130, R104). -/
def execAndZp (b1 : Byte) (s : State) : Result :=
  readClass (.memory (.zp b1)) State.andA s

/-- AND #d8, opcode 29 (R130, R103). -/
def execAndImm (b1 : Byte) (s : State) : Result :=
  readClass (.immediate b1) State.andA s

/-- BIT a16, opcode 2C (R133, R109). -/
def execBitAbs (b1 b2 : Byte) (s : State) : Result :=
  readClass (.memory (.abs b1 b2)) State.bitTest s

/-- AND a16, opcode 2D (R130, R109). -/
def execAndAbs (b1 b2 : Byte) (s : State) : Result :=
  readClass (.memory (.abs b1 b2)) State.andA s

/-- AND (a8),Y, opcode 31 (R130, R108). -/
def execAndIndY (b1 : Byte) (s : State) : Result :=
  readClass (.memory (.indY b1)) State.andA s

/-- AND a8,X, opcode 35 (R130, R105). -/
def execAndZpX (b1 : Byte) (s : State) : Result :=
  readClass (.memory (.zpX b1)) State.andA s

/-- AND a16,Y, opcode 39 (R130, R111). -/
def execAndAbsY (b1 b2 : Byte) (s : State) : Result :=
  readClass (.memory (.absY b1 b2)) State.andA s

/-- AND a16,X, opcode 3D (R130, R110). -/
def execAndAbsX (b1 b2 : Byte) (s : State) : Result :=
  readClass (.memory (.absX b1 b2)) State.andA s

/-- EOR (a8,X), opcode 41 (R132, R107). -/
def execEorIndX (b1 : Byte) (s : State) : Result :=
  readClass (.memory (.indX b1)) State.eorA s

/-- EOR a8, opcode 45 (R132, R104). -/
def execEorZp (b1 : Byte) (s : State) : Result :=
  readClass (.memory (.zp b1)) State.eorA s

/-- EOR #d8, opcode 49 (R132, R103). -/
def execEorImm (b1 : Byte) (s : State) : Result :=
  readClass (.immediate b1) State.eorA s

/-- EOR a16, opcode 4D (R132, R109). -/
def execEorAbs (b1 b2 : Byte) (s : State) : Result :=
  readClass (.memory (.abs b1 b2)) State.eorA s

/-- EOR (a8),Y, opcode 51 (R132, R108). -/
def execEorIndY (b1 : Byte) (s : State) : Result :=
  readClass (.memory (.indY b1)) State.eorA s

/-- EOR a8,X, opcode 55 (R132, R105). -/
def execEorZpX (b1 : Byte) (s : State) : Result :=
  readClass (.memory (.zpX b1)) State.eorA s

/-- EOR a16,Y, opcode 59 (R132, R111). -/
def execEorAbsY (b1 b2 : Byte) (s : State) : Result :=
  readClass (.memory (.absY b1 b2)) State.eorA s

/-- EOR a16,X, opcode 5D (R132, R110). -/
def execEorAbsX (b1 b2 : Byte) (s : State) : Result :=
  readClass (.memory (.absX b1 b2)) State.eorA s

end Sys2Proof.Machine
end

