-- ==== Sys2Proof/Machine/Shift.lean ====
section
/-! DEFINITION. Shift and rotate instructions ASL, LSR, ROL, ROR (43_shift.md R140 to R144). -/

namespace Sys2Proof.Machine

/-- The result of a shift and the flags it sets: C is the bit shifted out, N and Z are those of the result (R140). -/
def State.shifted (r : Byte × Bool) (s : State) : Byte × State :=
  (r.1, { s with p := { s.p.setNZ r.1 with c := r.2 } })

/-- The effect of ASL (R141). -/
def State.asl (v : Byte) (s : State) : Byte × State := s.shifted (aslByte v)

/-- The effect of LSR: N is always 0 (R142). -/
def State.lsr (v : Byte) (s : State) : Byte × State :=
  let r := lsrByte v
  (r.1, { s with p := { s.p with n := false, z := r.1 == 0, c := r.2 } })

/-- The effect of ROL: the input carry enters bit 0 (R143). -/
def State.rol (v : Byte) (s : State) : Byte × State := s.shifted (rolByte v s.p.c)

/-- The effect of ROR: the input carry enters bit 7 (R144). -/
def State.ror (v : Byte) (s : State) : Byte × State := s.shifted (rorByte v s.p.c)

/-- ASL a8, opcode 06 (R141, R104). -/
def execAslZp (b1 : Byte) (s : State) : Result :=
  rmwClass (.zp b1) State.asl s

/-- ASL A, opcode 0A (R141, R102). -/
def execAslA (s : State) : Result :=
  accumulatorClass State.asl s

/-- ASL a16, opcode 0E (R141, R109). -/
def execAslAbs (b1 b2 : Byte) (s : State) : Result :=
  rmwClass (.abs b1 b2) State.asl s

/-- ASL a8,X, opcode 16 (R141, R105). -/
def execAslZpX (b1 : Byte) (s : State) : Result :=
  rmwClass (.zpX b1) State.asl s

/-- ASL a16,X, opcode 1E (R141, R110). -/
def execAslAbsX (b1 b2 : Byte) (s : State) : Result :=
  rmwClass (.absX b1 b2) State.asl s

/-- ROL a8, opcode 26 (R143, R104). -/
def execRolZp (b1 : Byte) (s : State) : Result :=
  rmwClass (.zp b1) State.rol s

/-- ROL A, opcode 2A (R143, R102). -/
def execRolA (s : State) : Result :=
  accumulatorClass State.rol s

/-- ROL a16, opcode 2E (R143, R109). -/
def execRolAbs (b1 b2 : Byte) (s : State) : Result :=
  rmwClass (.abs b1 b2) State.rol s

/-- ROL a8,X, opcode 36 (R143, R105). -/
def execRolZpX (b1 : Byte) (s : State) : Result :=
  rmwClass (.zpX b1) State.rol s

/-- ROL a16,X, opcode 3E (R143, R110). -/
def execRolAbsX (b1 b2 : Byte) (s : State) : Result :=
  rmwClass (.absX b1 b2) State.rol s

/-- LSR a8, opcode 46 (R142, R104). -/
def execLsrZp (b1 : Byte) (s : State) : Result :=
  rmwClass (.zp b1) State.lsr s

/-- LSR A, opcode 4A (R142, R102). -/
def execLsrA (s : State) : Result :=
  accumulatorClass State.lsr s

/-- LSR a16, opcode 4E (R142, R109). -/
def execLsrAbs (b1 b2 : Byte) (s : State) : Result :=
  rmwClass (.abs b1 b2) State.lsr s

/-- LSR a8,X, opcode 56 (R142, R105). -/
def execLsrZpX (b1 : Byte) (s : State) : Result :=
  rmwClass (.zpX b1) State.lsr s

/-- LSR a16,X, opcode 5E (R142, R110). -/
def execLsrAbsX (b1 b2 : Byte) (s : State) : Result :=
  rmwClass (.absX b1 b2) State.lsr s

/-- ROR a8, opcode 66 (R144, R104). -/
def execRorZp (b1 : Byte) (s : State) : Result :=
  rmwClass (.zp b1) State.ror s

/-- ROR A, opcode 6A (R144, R102). -/
def execRorA (s : State) : Result :=
  accumulatorClass State.ror s

/-- ROR a16, opcode 6E (R144, R109). -/
def execRorAbs (b1 b2 : Byte) (s : State) : Result :=
  rmwClass (.abs b1 b2) State.ror s

/-- ROR a8,X, opcode 76 (R144, R105). -/
def execRorZpX (b1 : Byte) (s : State) : Result :=
  rmwClass (.zpX b1) State.ror s

/-- ROR a16,X, opcode 7E (R144, R110). -/
def execRorAbsX (b1 b2 : Byte) (s : State) : Result :=
  rmwClass (.absX b1 b2) State.ror s

end Sys2Proof.Machine
end

