-- ==== Sys2Proof/Machine/Stack.lean ====
section
/-! DEFINITION. Stack instructions PHA, PHP, PLA, PLP (48_load_stack_transfer.md R206 to R209). -/

namespace Sys2Proof.Machine

/-- PHP implied, opcode 08 (R207). -/
def execPhp (s : State) : Result :=
  impliedClass (fun t => t.push (pImage true t.p)) s

/-- PLP implied, opcode 28 (R209). -/
def execPlp (s : State) : Result :=
  .next ({ s with p := statusOf (s.pulled .pull1 1), sp := s.sp + 1 }.retireDeferring s.p.i 1)

/-- PHA implied, opcode 48 (R206). -/
def execPha (s : State) : Result :=
  impliedClass (fun t => t.push t.a) s

/-- PLA implied, opcode 68 (R208). -/
def execPla (s : State) : Result :=
  impliedClass (fun t => { t with a := t.pulled .pull1 1, sp := t.sp + 1, p := t.p.setNZ (t.pulled .pull1 1) }) s

end Sys2Proof.Machine
end

