-- ==== Sys2Proof/Machine/Transfer.lean ====
section
/-! DEFINITION. Register transfers (48_load_stack_transfer.md R210 to R215); TXS alone writes no flag. -/

namespace Sys2Proof.Machine

/-- TXA implied, opcode 8A (R213). -/
def execTxa (s : State) : Result :=
  impliedClass (fun t => { t with a := t.x, p := t.p.setNZ t.x }) s

/-- TYA implied, opcode 98 (R215). -/
def execTya (s : State) : Result :=
  impliedClass (fun t => { t with a := t.y, p := t.p.setNZ t.y }) s

/-- TXS implied, opcode 9A (R214). -/
def execTxs (s : State) : Result :=
  impliedClass (fun t => { t with sp := t.x }) s

/-- TAY implied, opcode A8 (R211). -/
def execTay (s : State) : Result :=
  impliedClass (fun t => { t with y := t.a, p := t.p.setNZ t.a }) s

/-- TAX implied, opcode AA (R210). -/
def execTax (s : State) : Result :=
  impliedClass (fun t => { t with x := t.a, p := t.p.setNZ t.a }) s

/-- TSX implied, opcode BA (R212). -/
def execTsx (s : State) : Result :=
  impliedClass (fun t => { t with x := t.sp, p := t.p.setNZ t.sp }) s

end Sys2Proof.Machine
end

