-- ==== Sys2Proof/Machine/UndocImm.lean ====
section
/-! DEFINITION. The undocumented immediate instructions ANC, ASR, ARR, SBX, *SBC, XAA (49_undocumented.md R231,
R233, R232, R244, R243, R251). -/

namespace Sys2Proof.Machine

/-- The effect of ANC: AND, then N to C (R231). -/
def State.anc (m : Byte) (s : State) : State :=
  let r := s.a &&& m
  { s with a := r, p := { s.p.setNZ r with c := r.msb } }

/-- The effect of ASR: AND, then LSR of A; N is always 0 (R233). -/
def State.asr (m : Byte) (s : State) : State :=
  let r := lsrByte (s.a &&& m)
  { s with a := r.1, p := { s.p with n := false, z := r.1 == 0, c := r.2 } }

/-- The effect of ARR: AND, then rotate right with the input carry; V and C by the rule for D = 0 or for D = 1
(R232, D28, log 21). -/
def State.arr (m : Byte) (s : State) : State :=
  let t := s.a &&& m
  let r := (rorByte t s.p.c).1
  let p := s.p.setNZ r
  let v := if s.p.d then r.getLsbD 6 != t.getLsbD 6 else r.getLsbD 6 != r.getLsbD 5
  let c := if s.p.d then decide (0x50 < (t &&& 0xF0).toNat + (t &&& 0x10).toNat) else r.getLsbD 6
  { s with a := r, p := { p with v := v, c := c } }

/-- The effect of ARR with D = 1 where `UnstableOps` says draw: A receives a free byte, and the flags are those of
the rule (R5, R232, U9, log 10). -/
def State.arrDrawn (m : Byte) (s : State) : State := { s.arr m with a := s.unstableByte }

/-- The effect of SBX: the subtraction of a compare, its result in X (R244). -/
def State.sbx (m : Byte) (s : State) : State :=
  { s with x := (s.a &&& s.x) - m, p := s.p.compare (s.a &&& s.x) m }

/-- The effect of XAA: A is a free byte, N and Z are those of that byte (R251, log 11). -/
def State.xaa (_ : Byte) (s : State) : State := s.setA (Config.freeByte s.draws .xaa)

/-- ANC #d8, opcode 0B (R231, R103). -/
def execAncImm0B (b1 : Byte) (s : State) : Result :=
  readClass (.immediate b1) State.anc s

/-- ANC #d8, opcode 2B (R231, R103). -/
def execAncImm2B (b1 : Byte) (s : State) : Result :=
  readClass (.immediate b1) State.anc s

/-- ASR #d8, opcode 4B (R233, R103). -/
def execAsrImm (b1 : Byte) (s : State) : Result :=
  readClass (.immediate b1) State.asr s

/-- ARR #d8, opcode 6B (R232, R103). -/
def execArrImm (b1 : Byte) (s : State) : Result :=
  byUnstableUse (if s.p.d then s.plat.unstable.arrDecimal else .rule) (readClass (.immediate b1) State.arr s)
    (readClass (.immediate b1) State.arrDrawn s)

/-- XAA #d8, opcode 8B (R251, R103). -/
def execXaaImm (b1 : Byte) (s : State) : Result :=
  byUnstableUse s.plat.unstable.xaa (readClass (.immediate b1) State.xaa s)
    (readClass (.immediate b1) State.xaa s)

/-- SBX #d8, opcode CB (R244, R103). -/
def execSbxImm (b1 : Byte) (s : State) : Result :=
  readClass (.immediate b1) State.sbx s

/-- *SBC #d8, opcode EB (R243, R103). -/
def execSbcImmEB (b1 : Byte) (s : State) : Result :=
  readClass (.immediate b1) State.sbc s

end Sys2Proof.Machine
end

