-- ==== Sys2Proof/Machine/UndocLoad.lean ====
section
/-! DEFINITION. The undocumented loads and stores SAX, LAX, LAS, SHA, SHX, SHY, SHS (49_undocumented.md R242, R238,
R237, R245 to R248). LAX #d8, SHA, SHX, SHY and SHS are of class fragile: the platform's parameter `UnstableOps` says whether they execute
the rule, execute it with a draw, or are refused (R5, R230, log 10). -/

namespace Sys2Proof.Machine

/-- The effect of LAX: A and X both receive the byte (R238). -/
def State.lax (m : Byte) (s : State) : State := { s with a := m, x := m, p := s.p.setNZ m }

/-- The effect of LAX #d8 where `UnstableOps` says draw: A and X both receive a free byte (R5, U2, log 10). -/
def State.laxDrawn (_ : Byte) (s : State) : State := s.lax s.unstableByte

/-- The effect of LAS (R237). -/
def State.las (m : Byte) (s : State) : State :=
  let r := m &&& s.sp
  { s with a := r, x := r, sp := r, p := s.p.setNZ r }

/-- The third operand of SHA, SHX, SHY, SHS: the high byte of the un-indexed address, plus 1 modulo 256 (R245 to
R248, D26). -/
def highPlusOne (m : MemMode) (s : State) : Byte := hi (baseAddr m s) + 1

/-- A store of class fragile: `v` is the byte of its rule; where `UnstableOps` says draw, a free byte is stored at the
same address (R5, R230, U8, log 10). -/
def unstableStore (u : UnstableUse) (m : MemMode) (v : Byte) (s : State) : Result :=
  byUnstableUse u (writeClass m v s) (writeClass m s.unstableByte s)

/-- SAX (a8,X), opcode 83 (R242, R107). -/
def execSaxIndX (b1 : Byte) (s : State) : Result :=
  writeClass (.indX b1) (s.a &&& s.x) s

/-- SAX a8, opcode 87 (R242, R104). -/
def execSaxZp (b1 : Byte) (s : State) : Result :=
  writeClass (.zp b1) (s.a &&& s.x) s

/-- SAX a16, opcode 8F (R242, R109). -/
def execSaxAbs (b1 b2 : Byte) (s : State) : Result :=
  writeClass (.abs b1 b2) (s.a &&& s.x) s

/-- SHA (a8),Y, opcode 93 (R245, R108). -/
def execShaIndY (b1 : Byte) (s : State) : Result :=
  unstableStore s.plat.unstable.shaIndY (.indY b1) (s.a &&& s.x &&& highPlusOne (.indY b1) s) s

/-- SAX a8,Y, opcode 97 (R242, R106). -/
def execSaxZpY (b1 : Byte) (s : State) : Result :=
  writeClass (.zpY b1) (s.a &&& s.x) s

/-- SHS a16,Y, opcode 9B (R246, R111). -/
def execShsAbsY (b1 b2 : Byte) (s : State) : Result :=
  unstableStore s.plat.unstable.shsAbsY (.absY b1 b2) (s.a &&& s.x &&& highPlusOne (.absY b1 b2) s)
    { s with sp := s.a &&& s.x }

/-- SHY a16,X, opcode 9C (R248, R110). -/
def execShyAbsX (b1 b2 : Byte) (s : State) : Result :=
  unstableStore s.plat.unstable.shyAbsX (.absX b1 b2) (s.y &&& highPlusOne (.absX b1 b2) s) s

/-- SHX a16,Y, opcode 9E (R247, R111). -/
def execShxAbsY (b1 b2 : Byte) (s : State) : Result :=
  unstableStore s.plat.unstable.shxAbsY (.absY b1 b2) (s.x &&& highPlusOne (.absY b1 b2) s) s

/-- SHA a16,Y, opcode 9F (R245, R111). -/
def execShaAbsY (b1 b2 : Byte) (s : State) : Result :=
  unstableStore s.plat.unstable.shaAbsY (.absY b1 b2) (s.a &&& s.x &&& highPlusOne (.absY b1 b2) s) s

/-- LAX (a8,X), opcode A3 (R238, R107). -/
def execLaxIndX (b1 : Byte) (s : State) : Result :=
  readClass (.memory (.indX b1)) State.lax s

/-- LAX a8, opcode A7 (R238, R104). -/
def execLaxZp (b1 : Byte) (s : State) : Result :=
  readClass (.memory (.zp b1)) State.lax s

/-- LAX #d8, opcode AB (R238, R103). -/
def execLaxImm (b1 : Byte) (s : State) : Result :=
  byUnstableUse s.plat.unstable.laxImm (readClass (.immediate b1) State.lax s)
    (readClass (.immediate b1) State.laxDrawn s)

/-- LAX a16, opcode AF (R238, R109). -/
def execLaxAbs (b1 b2 : Byte) (s : State) : Result :=
  readClass (.memory (.abs b1 b2)) State.lax s

/-- LAX (a8),Y, opcode B3 (R238, R108). -/
def execLaxIndY (b1 : Byte) (s : State) : Result :=
  readClass (.memory (.indY b1)) State.lax s

/-- LAX a8,Y, opcode B7 (R238, R106). -/
def execLaxZpY (b1 : Byte) (s : State) : Result :=
  readClass (.memory (.zpY b1)) State.lax s

/-- LAS a16,Y, opcode BB (R237, R111). -/
def execLasAbsY (b1 b2 : Byte) (s : State) : Result :=
  readClass (.memory (.absY b1 b2)) State.las s

/-- LAX a16,Y, opcode BF (R238, R111). -/
def execLaxAbsY (b1 b2 : Byte) (s : State) : Result :=
  readClass (.memory (.absY b1 b2)) State.lax s

end Sys2Proof.Machine
end

