-- ==== Sys2Proof/Machine/UndocNop.lean ====
section
/-! DEFINITION. The undocumented no-operations *NOP and the halt JAM (49_undocumented.md R239, R236). -/

namespace Sys2Proof.Machine

/-- The effect of JAM: the CPU halts; PC is unspecified from then on, so it is a free value (R236, log 12). -/
def State.jam (s : State) : State :=
  { s with halted := true }.endAt
    (join (Config.freeByte s.draws .haltedPcHigh) (Config.freeByte s.draws .haltedPcLow))

/-- JAM implied, opcode 02 (R236). -/
def execJam02 (s : State) : Result :=
  .next s.jam

/-- *NOP a8, opcode 04 (R239, R104). -/
def execNopZp04 (b1 : Byte) (s : State) : Result :=
  readClass (.memory (.zp b1)) (fun _ t => t) s

/-- *NOP a16, opcode 0C (R239, R109). -/
def execNopAbs0C (b1 b2 : Byte) (s : State) : Result :=
  readClass (.memory (.abs b1 b2)) (fun _ t => t) s

/-- JAM implied, opcode 12 (R236). -/
def execJam12 (s : State) : Result :=
  .next s.jam

/-- *NOP a8,X, opcode 14 (R239, R105). -/
def execNopZpX14 (b1 : Byte) (s : State) : Result :=
  readClass (.memory (.zpX b1)) (fun _ t => t) s

/-- *NOP implied, opcode 1A (R239). -/
def execNop1A (s : State) : Result :=
  impliedClass id s

/-- *NOP a16,X, opcode 1C (R239, R110). -/
def execNopAbsX1C (b1 b2 : Byte) (s : State) : Result :=
  readClass (.memory (.absX b1 b2)) (fun _ t => t) s

/-- JAM implied, opcode 22 (R236). -/
def execJam22 (s : State) : Result :=
  .next s.jam

/-- JAM implied, opcode 32 (R236). -/
def execJam32 (s : State) : Result :=
  .next s.jam

/-- *NOP a8,X, opcode 34 (R239, R105). -/
def execNopZpX34 (b1 : Byte) (s : State) : Result :=
  readClass (.memory (.zpX b1)) (fun _ t => t) s

/-- *NOP implied, opcode 3A (R239). -/
def execNop3A (s : State) : Result :=
  impliedClass id s

/-- *NOP a16,X, opcode 3C (R239, R110). -/
def execNopAbsX3C (b1 b2 : Byte) (s : State) : Result :=
  readClass (.memory (.absX b1 b2)) (fun _ t => t) s

/-- JAM implied, opcode 42 (R236). -/
def execJam42 (s : State) : Result :=
  .next s.jam

/-- *NOP a8, opcode 44 (R239, R104). -/
def execNopZp44 (b1 : Byte) (s : State) : Result :=
  readClass (.memory (.zp b1)) (fun _ t => t) s

/-- JAM implied, opcode 52 (R236). -/
def execJam52 (s : State) : Result :=
  .next s.jam

/-- *NOP a8,X, opcode 54 (R239, R105). -/
def execNopZpX54 (b1 : Byte) (s : State) : Result :=
  readClass (.memory (.zpX b1)) (fun _ t => t) s

/-- *NOP implied, opcode 5A (R239). -/
def execNop5A (s : State) : Result :=
  impliedClass id s

/-- *NOP a16,X, opcode 5C (R239, R110). -/
def execNopAbsX5C (b1 b2 : Byte) (s : State) : Result :=
  readClass (.memory (.absX b1 b2)) (fun _ t => t) s

/-- JAM implied, opcode 62 (R236). -/
def execJam62 (s : State) : Result :=
  .next s.jam

/-- *NOP a8, opcode 64 (R239, R104). -/
def execNopZp64 (b1 : Byte) (s : State) : Result :=
  readClass (.memory (.zp b1)) (fun _ t => t) s

/-- JAM implied, opcode 72 (R236). -/
def execJam72 (s : State) : Result :=
  .next s.jam

/-- *NOP a8,X, opcode 74 (R239, R105). -/
def execNopZpX74 (b1 : Byte) (s : State) : Result :=
  readClass (.memory (.zpX b1)) (fun _ t => t) s

/-- *NOP implied, opcode 7A (R239). -/
def execNop7A (s : State) : Result :=
  impliedClass id s

/-- *NOP a16,X, opcode 7C (R239, R110). -/
def execNopAbsX7C (b1 b2 : Byte) (s : State) : Result :=
  readClass (.memory (.absX b1 b2)) (fun _ t => t) s

/-- *NOP #d8, opcode 80 (R239, R103). -/
def execNopImm80 (b1 : Byte) (s : State) : Result :=
  readClass (.immediate b1) (fun _ t => t) s

/-- *NOP #d8, opcode 82 (R239, R103). -/
def execNopImm82 (b1 : Byte) (s : State) : Result :=
  readClass (.immediate b1) (fun _ t => t) s

/-- *NOP #d8, opcode 89 (R239, R103). -/
def execNopImm89 (b1 : Byte) (s : State) : Result :=
  readClass (.immediate b1) (fun _ t => t) s

/-- JAM implied, opcode 92 (R236). -/
def execJam92 (s : State) : Result :=
  .next s.jam

/-- JAM implied, opcode B2 (R236). -/
def execJamB2 (s : State) : Result :=
  .next s.jam

/-- *NOP #d8, opcode C2 (R239, R103). -/
def execNopImmC2 (b1 : Byte) (s : State) : Result :=
  readClass (.immediate b1) (fun _ t => t) s

/-- JAM implied, opcode D2 (R236). -/
def execJamD2 (s : State) : Result :=
  .next s.jam

/-- *NOP a8,X, opcode D4 (R239, R105). -/
def execNopZpXD4 (b1 : Byte) (s : State) : Result :=
  readClass (.memory (.zpX b1)) (fun _ t => t) s

/-- *NOP implied, opcode DA (R239). -/
def execNopDA (s : State) : Result :=
  impliedClass id s

/-- *NOP a16,X, opcode DC (R239, R110). -/
def execNopAbsXDC (b1 b2 : Byte) (s : State) : Result :=
  readClass (.memory (.absX b1 b2)) (fun _ t => t) s

/-- *NOP #d8, opcode E2 (R239, R103). -/
def execNopImmE2 (b1 : Byte) (s : State) : Result :=
  readClass (.immediate b1) (fun _ t => t) s

/-- JAM implied, opcode F2 (R236). -/
def execJamF2 (s : State) : Result :=
  .next s.jam

/-- *NOP a8,X, opcode F4 (R239, R105). -/
def execNopZpXF4 (b1 : Byte) (s : State) : Result :=
  readClass (.memory (.zpX b1)) (fun _ t => t) s

/-- *NOP implied, opcode FA (R239). -/
def execNopFA (s : State) : Result :=
  impliedClass id s

/-- *NOP a16,X, opcode FC (R239, R110). -/
def execNopAbsXFC (b1 b2 : Byte) (s : State) : Result :=
  readClass (.memory (.absX b1 b2)) (fun _ t => t) s

end Sys2Proof.Machine
end

