-- ==== Sys2Proof/Machine/UndocRmw.lean ====
section
/-! DEFINITION. The undocumented read/modify/write combinations SLO, RLA, SRE, RRA, DCP, ISC (49_undocumented.md
R249, R240, R250, R241, R234, R235): a documented shift or increment of memory, then a documented accumulator
instruction on the byte written back. -/

namespace Sys2Proof.Machine

/-- C takes the bit shifted out. -/
def State.setC (c : Bool) (s : State) : State := { s with p := { s.p with c := c } }

/-- The effect of SLO: ASL, then ORA (R249). -/
def State.slo (v : Byte) (s : State) : Byte × State :=
  let r := aslByte v
  (r.1, (s.setC r.2).oraA r.1)

/-- The effect of RLA: ROL, then AND (R240). -/
def State.rla (v : Byte) (s : State) : Byte × State :=
  let r := rolByte v s.p.c
  (r.1, (s.setC r.2).andA r.1)

/-- The effect of SRE: LSR, then EOR (R250). -/
def State.sre (v : Byte) (s : State) : Byte × State :=
  let r := lsrByte v
  (r.1, (s.setC r.2).eorA r.1)

/-- The effect of RRA: ROR, then ADC with the bit rotated out as its carry (R241). -/
def State.rra (v : Byte) (s : State) : Byte × State :=
  let r := rorByte v s.p.c
  (r.1, (s.setC r.2).adc r.1)

/-- The effect of DCP: DEC, then CMP (R234). -/
def State.dcp (v : Byte) (s : State) : Byte × State := (v - 1, s.cmp (v - 1))

/-- The effect of ISC: INC, then SBC with the carry from before the instruction (R235). -/
def State.isc (v : Byte) (s : State) : Byte × State := (v + 1, s.sbc (v + 1))

/-- SLO (a8,X), opcode 03 (R249, R107). -/
def execSloIndX (b1 : Byte) (s : State) : Result :=
  rmwClass (.indX b1) State.slo s

/-- SLO a8, opcode 07 (R249, R104). -/
def execSloZp (b1 : Byte) (s : State) : Result :=
  rmwClass (.zp b1) State.slo s

/-- SLO a16, opcode 0F (R249, R109). -/
def execSloAbs (b1 b2 : Byte) (s : State) : Result :=
  rmwClass (.abs b1 b2) State.slo s

/-- SLO (a8),Y, opcode 13 (R249, R108). -/
def execSloIndY (b1 : Byte) (s : State) : Result :=
  rmwClass (.indY b1) State.slo s

/-- SLO a8,X, opcode 17 (R249, R105). -/
def execSloZpX (b1 : Byte) (s : State) : Result :=
  rmwClass (.zpX b1) State.slo s

/-- SLO a16,Y, opcode 1B (R249, R111). -/
def execSloAbsY (b1 b2 : Byte) (s : State) : Result :=
  rmwClass (.absY b1 b2) State.slo s

/-- SLO a16,X, opcode 1F (R249, R110). -/
def execSloAbsX (b1 b2 : Byte) (s : State) : Result :=
  rmwClass (.absX b1 b2) State.slo s

/-- RLA (a8,X), opcode 23 (R240, R107). -/
def execRlaIndX (b1 : Byte) (s : State) : Result :=
  rmwClass (.indX b1) State.rla s

/-- RLA a8, opcode 27 (R240, R104). -/
def execRlaZp (b1 : Byte) (s : State) : Result :=
  rmwClass (.zp b1) State.rla s

/-- RLA a16, opcode 2F (R240, R109). -/
def execRlaAbs (b1 b2 : Byte) (s : State) : Result :=
  rmwClass (.abs b1 b2) State.rla s

/-- RLA (a8),Y, opcode 33 (R240, R108). -/
def execRlaIndY (b1 : Byte) (s : State) : Result :=
  rmwClass (.indY b1) State.rla s

/-- RLA a8,X, opcode 37 (R240, R105). -/
def execRlaZpX (b1 : Byte) (s : State) : Result :=
  rmwClass (.zpX b1) State.rla s

/-- RLA a16,Y, opcode 3B (R240, R111). -/
def execRlaAbsY (b1 b2 : Byte) (s : State) : Result :=
  rmwClass (.absY b1 b2) State.rla s

/-- RLA a16,X, opcode 3F (R240, R110). -/
def execRlaAbsX (b1 b2 : Byte) (s : State) : Result :=
  rmwClass (.absX b1 b2) State.rla s

/-- SRE (a8,X), opcode 43 (R250, R107). -/
def execSreIndX (b1 : Byte) (s : State) : Result :=
  rmwClass (.indX b1) State.sre s

/-- SRE a8, opcode 47 (R250, R104). -/
def execSreZp (b1 : Byte) (s : State) : Result :=
  rmwClass (.zp b1) State.sre s

/-- SRE a16, opcode 4F (R250, R109). -/
def execSreAbs (b1 b2 : Byte) (s : State) : Result :=
  rmwClass (.abs b1 b2) State.sre s

/-- SRE (a8),Y, opcode 53 (R250, R108). -/
def execSreIndY (b1 : Byte) (s : State) : Result :=
  rmwClass (.indY b1) State.sre s

/-- SRE a8,X, opcode 57 (R250, R105). -/
def execSreZpX (b1 : Byte) (s : State) : Result :=
  rmwClass (.zpX b1) State.sre s

/-- SRE a16,Y, opcode 5B (R250, R111). -/
def execSreAbsY (b1 b2 : Byte) (s : State) : Result :=
  rmwClass (.absY b1 b2) State.sre s

/-- SRE a16,X, opcode 5F (R250, R110). -/
def execSreAbsX (b1 b2 : Byte) (s : State) : Result :=
  rmwClass (.absX b1 b2) State.sre s

/-- RRA (a8,X), opcode 63 (R241, R107). -/
def execRraIndX (b1 : Byte) (s : State) : Result :=
  rmwClass (.indX b1) State.rra s

/-- RRA a8, opcode 67 (R241, R104). -/
def execRraZp (b1 : Byte) (s : State) : Result :=
  rmwClass (.zp b1) State.rra s

/-- RRA a16, opcode 6F (R241, R109). -/
def execRraAbs (b1 b2 : Byte) (s : State) : Result :=
  rmwClass (.abs b1 b2) State.rra s

/-- RRA (a8),Y, opcode 73 (R241, R108). -/
def execRraIndY (b1 : Byte) (s : State) : Result :=
  rmwClass (.indY b1) State.rra s

/-- RRA a8,X, opcode 77 (R241, R105). -/
def execRraZpX (b1 : Byte) (s : State) : Result :=
  rmwClass (.zpX b1) State.rra s

/-- RRA a16,Y, opcode 7B (R241, R111). -/
def execRraAbsY (b1 b2 : Byte) (s : State) : Result :=
  rmwClass (.absY b1 b2) State.rra s

/-- RRA a16,X, opcode 7F (R241, R110). -/
def execRraAbsX (b1 b2 : Byte) (s : State) : Result :=
  rmwClass (.absX b1 b2) State.rra s

/-- DCP (a8,X), opcode C3 (R234, R107). -/
def execDcpIndX (b1 : Byte) (s : State) : Result :=
  rmwClass (.indX b1) State.dcp s

/-- DCP a8, opcode C7 (R234, R104). -/
def execDcpZp (b1 : Byte) (s : State) : Result :=
  rmwClass (.zp b1) State.dcp s

/-- DCP a16, opcode CF (R234, R109). -/
def execDcpAbs (b1 b2 : Byte) (s : State) : Result :=
  rmwClass (.abs b1 b2) State.dcp s

/-- DCP (a8),Y, opcode D3 (R234, R108). -/
def execDcpIndY (b1 : Byte) (s : State) : Result :=
  rmwClass (.indY b1) State.dcp s

/-- DCP a8,X, opcode D7 (R234, R105). -/
def execDcpZpX (b1 : Byte) (s : State) : Result :=
  rmwClass (.zpX b1) State.dcp s

/-- DCP a16,Y, opcode DB (R234, R111). -/
def execDcpAbsY (b1 b2 : Byte) (s : State) : Result :=
  rmwClass (.absY b1 b2) State.dcp s

/-- DCP a16,X, opcode DF (R234, R110). -/
def execDcpAbsX (b1 b2 : Byte) (s : State) : Result :=
  rmwClass (.absX b1 b2) State.dcp s

/-- ISC (a8,X), opcode E3 (R235, R107). -/
def execIscIndX (b1 : Byte) (s : State) : Result :=
  rmwClass (.indX b1) State.isc s

/-- ISC a8, opcode E7 (R235, R104). -/
def execIscZp (b1 : Byte) (s : State) : Result :=
  rmwClass (.zp b1) State.isc s

/-- ISC a16, opcode EF (R235, R109). -/
def execIscAbs (b1 b2 : Byte) (s : State) : Result :=
  rmwClass (.abs b1 b2) State.isc s

/-- ISC (a8),Y, opcode F3 (R235, R108). -/
def execIscIndY (b1 : Byte) (s : State) : Result :=
  rmwClass (.indY b1) State.isc s

/-- ISC a8,X, opcode F7 (R235, R105). -/
def execIscZpX (b1 : Byte) (s : State) : Result :=
  rmwClass (.zpX b1) State.isc s

/-- ISC a16,Y, opcode FB (R235, R111). -/
def execIscAbsY (b1 b2 : Byte) (s : State) : Result :=
  rmwClass (.absY b1 b2) State.isc s

/-- ISC a16,X, opcode FF (R235, R110). -/
def execIscAbsX (b1 b2 : Byte) (s : State) : Result :=
  rmwClass (.absX b1 b2) State.isc s

end Sys2Proof.Machine
end

