-- ==== Sys2Proof/Machine/Dispatch.lean ====
section
/-! DEFINITION. One arm per constructor of `Instr`: each calls the instruction's own meaning. -/

namespace Sys2Proof.Machine

def exec (i : Instr) (s : State) : Host.Outcome State Fault Refusal :=
  match i with
  | .brk => Sys2Proof.Machine.execBrk s
  | .oraIndX b1 => Sys2Proof.Machine.execOraIndX b1 s
  | .jam02 => Sys2Proof.Machine.execJam02 s
  | .sloIndX b1 => Sys2Proof.Machine.execSloIndX b1 s
  | .nopZp04 b1 => Sys2Proof.Machine.execNopZp04 b1 s
  | .oraZp b1 => Sys2Proof.Machine.execOraZp b1 s
  | .aslZp b1 => Sys2Proof.Machine.execAslZp b1 s
  | .sloZp b1 => Sys2Proof.Machine.execSloZp b1 s
  | .php => Sys2Proof.Machine.execPhp s
  | .oraImm b1 => Sys2Proof.Machine.execOraImm b1 s
  | .aslA => Sys2Proof.Machine.execAslA s
  | .ancImm0B b1 => Sys2Proof.Machine.execAncImm0B b1 s
  | .nopAbs0C b1 b2 => Sys2Proof.Machine.execNopAbs0C b1 b2 s
  | .oraAbs b1 b2 => Sys2Proof.Machine.execOraAbs b1 b2 s
  | .aslAbs b1 b2 => Sys2Proof.Machine.execAslAbs b1 b2 s
  | .sloAbs b1 b2 => Sys2Proof.Machine.execSloAbs b1 b2 s
  | .bpl b1 => Sys2Proof.Machine.execBpl b1 s
  | .oraIndY b1 => Sys2Proof.Machine.execOraIndY b1 s
  | .jam12 => Sys2Proof.Machine.execJam12 s
  | .sloIndY b1 => Sys2Proof.Machine.execSloIndY b1 s
  | .nopZpX14 b1 => Sys2Proof.Machine.execNopZpX14 b1 s
  | .oraZpX b1 => Sys2Proof.Machine.execOraZpX b1 s
  | .aslZpX b1 => Sys2Proof.Machine.execAslZpX b1 s
  | .sloZpX b1 => Sys2Proof.Machine.execSloZpX b1 s
  | .clc => Sys2Proof.Machine.execClc s
  | .oraAbsY b1 b2 => Sys2Proof.Machine.execOraAbsY b1 b2 s
  | .nop1A => Sys2Proof.Machine.execNop1A s
  | .sloAbsY b1 b2 => Sys2Proof.Machine.execSloAbsY b1 b2 s
  | .nopAbsX1C b1 b2 => Sys2Proof.Machine.execNopAbsX1C b1 b2 s
  | .oraAbsX b1 b2 => Sys2Proof.Machine.execOraAbsX b1 b2 s
  | .aslAbsX b1 b2 => Sys2Proof.Machine.execAslAbsX b1 b2 s
  | .sloAbsX b1 b2 => Sys2Proof.Machine.execSloAbsX b1 b2 s
  | .jsrAbs b1 b2 => Sys2Proof.Machine.execJsrAbs b1 b2 s
  | .andIndX b1 => Sys2Proof.Machine.execAndIndX b1 s
  | .jam22 => Sys2Proof.Machine.execJam22 s
  | .rlaIndX b1 => Sys2Proof.Machine.execRlaIndX b1 s
  | .bitZp b1 => Sys2Proof.Machine.execBitZp b1 s
  | .andZp b1 => Sys2Proof.Machine.execAndZp b1 s
  | .rolZp b1 => Sys2Proof.Machine.execRolZp b1 s
  | .rlaZp b1 => Sys2Proof.Machine.execRlaZp b1 s
  | .plp => Sys2Proof.Machine.execPlp s
  | .andImm b1 => Sys2Proof.Machine.execAndImm b1 s
  | .rolA => Sys2Proof.Machine.execRolA s
  | .ancImm2B b1 => Sys2Proof.Machine.execAncImm2B b1 s
  | .bitAbs b1 b2 => Sys2Proof.Machine.execBitAbs b1 b2 s
  | .andAbs b1 b2 => Sys2Proof.Machine.execAndAbs b1 b2 s
  | .rolAbs b1 b2 => Sys2Proof.Machine.execRolAbs b1 b2 s
  | .rlaAbs b1 b2 => Sys2Proof.Machine.execRlaAbs b1 b2 s
  | .bmi b1 => Sys2Proof.Machine.execBmi b1 s
  | .andIndY b1 => Sys2Proof.Machine.execAndIndY b1 s
  | .jam32 => Sys2Proof.Machine.execJam32 s
  | .rlaIndY b1 => Sys2Proof.Machine.execRlaIndY b1 s
  | .nopZpX34 b1 => Sys2Proof.Machine.execNopZpX34 b1 s
  | .andZpX b1 => Sys2Proof.Machine.execAndZpX b1 s
  | .rolZpX b1 => Sys2Proof.Machine.execRolZpX b1 s
  | .rlaZpX b1 => Sys2Proof.Machine.execRlaZpX b1 s
  | .sec => Sys2Proof.Machine.execSec s
  | .andAbsY b1 b2 => Sys2Proof.Machine.execAndAbsY b1 b2 s
  | .nop3A => Sys2Proof.Machine.execNop3A s
  | .rlaAbsY b1 b2 => Sys2Proof.Machine.execRlaAbsY b1 b2 s
  | .nopAbsX3C b1 b2 => Sys2Proof.Machine.execNopAbsX3C b1 b2 s
  | .andAbsX b1 b2 => Sys2Proof.Machine.execAndAbsX b1 b2 s
  | .rolAbsX b1 b2 => Sys2Proof.Machine.execRolAbsX b1 b2 s
  | .rlaAbsX b1 b2 => Sys2Proof.Machine.execRlaAbsX b1 b2 s
  | .rti => Sys2Proof.Machine.execRti s
  | .eorIndX b1 => Sys2Proof.Machine.execEorIndX b1 s
  | .jam42 => Sys2Proof.Machine.execJam42 s
  | .sreIndX b1 => Sys2Proof.Machine.execSreIndX b1 s
  | .nopZp44 b1 => Sys2Proof.Machine.execNopZp44 b1 s
  | .eorZp b1 => Sys2Proof.Machine.execEorZp b1 s
  | .lsrZp b1 => Sys2Proof.Machine.execLsrZp b1 s
  | .sreZp b1 => Sys2Proof.Machine.execSreZp b1 s
  | .pha => Sys2Proof.Machine.execPha s
  | .eorImm b1 => Sys2Proof.Machine.execEorImm b1 s
  | .lsrA => Sys2Proof.Machine.execLsrA s
  | .asrImm b1 => Sys2Proof.Machine.execAsrImm b1 s
  | .jmpAbs b1 b2 => Sys2Proof.Machine.execJmpAbs b1 b2 s
  | .eorAbs b1 b2 => Sys2Proof.Machine.execEorAbs b1 b2 s
  | .lsrAbs b1 b2 => Sys2Proof.Machine.execLsrAbs b1 b2 s
  | .sreAbs b1 b2 => Sys2Proof.Machine.execSreAbs b1 b2 s
  | .bvc b1 => Sys2Proof.Machine.execBvc b1 s
  | .eorIndY b1 => Sys2Proof.Machine.execEorIndY b1 s
  | .jam52 => Sys2Proof.Machine.execJam52 s
  | .sreIndY b1 => Sys2Proof.Machine.execSreIndY b1 s
  | .nopZpX54 b1 => Sys2Proof.Machine.execNopZpX54 b1 s
  | .eorZpX b1 => Sys2Proof.Machine.execEorZpX b1 s
  | .lsrZpX b1 => Sys2Proof.Machine.execLsrZpX b1 s
  | .sreZpX b1 => Sys2Proof.Machine.execSreZpX b1 s
  | .cli => Sys2Proof.Machine.execCli s
  | .eorAbsY b1 b2 => Sys2Proof.Machine.execEorAbsY b1 b2 s
  | .nop5A => Sys2Proof.Machine.execNop5A s
  | .sreAbsY b1 b2 => Sys2Proof.Machine.execSreAbsY b1 b2 s
  | .nopAbsX5C b1 b2 => Sys2Proof.Machine.execNopAbsX5C b1 b2 s
  | .eorAbsX b1 b2 => Sys2Proof.Machine.execEorAbsX b1 b2 s
  | .lsrAbsX b1 b2 => Sys2Proof.Machine.execLsrAbsX b1 b2 s
  | .sreAbsX b1 b2 => Sys2Proof.Machine.execSreAbsX b1 b2 s
  | .rts => Sys2Proof.Machine.execRts s
  | .adcIndX b1 => Sys2Proof.Machine.execAdcIndX b1 s
  | .jam62 => Sys2Proof.Machine.execJam62 s
  | .rraIndX b1 => Sys2Proof.Machine.execRraIndX b1 s
  | .nopZp64 b1 => Sys2Proof.Machine.execNopZp64 b1 s
  | .adcZp b1 => Sys2Proof.Machine.execAdcZp b1 s
  | .rorZp b1 => Sys2Proof.Machine.execRorZp b1 s
  | .rraZp b1 => Sys2Proof.Machine.execRraZp b1 s
  | .pla => Sys2Proof.Machine.execPla s
  | .adcImm b1 => Sys2Proof.Machine.execAdcImm b1 s
  | .rorA => Sys2Proof.Machine.execRorA s
  | .arrImm b1 => Sys2Proof.Machine.execArrImm b1 s
  | .jmpInd b1 b2 => Sys2Proof.Machine.execJmpInd b1 b2 s
  | .adcAbs b1 b2 => Sys2Proof.Machine.execAdcAbs b1 b2 s
  | .rorAbs b1 b2 => Sys2Proof.Machine.execRorAbs b1 b2 s
  | .rraAbs b1 b2 => Sys2Proof.Machine.execRraAbs b1 b2 s
  | .bvs b1 => Sys2Proof.Machine.execBvs b1 s
  | .adcIndY b1 => Sys2Proof.Machine.execAdcIndY b1 s
  | .jam72 => Sys2Proof.Machine.execJam72 s
  | .rraIndY b1 => Sys2Proof.Machine.execRraIndY b1 s
  | .nopZpX74 b1 => Sys2Proof.Machine.execNopZpX74 b1 s
  | .adcZpX b1 => Sys2Proof.Machine.execAdcZpX b1 s
  | .rorZpX b1 => Sys2Proof.Machine.execRorZpX b1 s
  | .rraZpX b1 => Sys2Proof.Machine.execRraZpX b1 s
  | .sei => Sys2Proof.Machine.execSei s
  | .adcAbsY b1 b2 => Sys2Proof.Machine.execAdcAbsY b1 b2 s
  | .nop7A => Sys2Proof.Machine.execNop7A s
  | .rraAbsY b1 b2 => Sys2Proof.Machine.execRraAbsY b1 b2 s
  | .nopAbsX7C b1 b2 => Sys2Proof.Machine.execNopAbsX7C b1 b2 s
  | .adcAbsX b1 b2 => Sys2Proof.Machine.execAdcAbsX b1 b2 s
  | .rorAbsX b1 b2 => Sys2Proof.Machine.execRorAbsX b1 b2 s
  | .rraAbsX b1 b2 => Sys2Proof.Machine.execRraAbsX b1 b2 s
  | .nopImm80 b1 => Sys2Proof.Machine.execNopImm80 b1 s
  | .staIndX b1 => Sys2Proof.Machine.execStaIndX b1 s
  | .nopImm82 b1 => Sys2Proof.Machine.execNopImm82 b1 s
  | .saxIndX b1 => Sys2Proof.Machine.execSaxIndX b1 s
  | .styZp b1 => Sys2Proof.Machine.execStyZp b1 s
  | .staZp b1 => Sys2Proof.Machine.execStaZp b1 s
  | .stxZp b1 => Sys2Proof.Machine.execStxZp b1 s
  | .saxZp b1 => Sys2Proof.Machine.execSaxZp b1 s
  | .dey => Sys2Proof.Machine.execDey s
  | .nopImm89 b1 => Sys2Proof.Machine.execNopImm89 b1 s
  | .txa => Sys2Proof.Machine.execTxa s
  | .xaaImm b1 => Sys2Proof.Machine.execXaaImm b1 s
  | .styAbs b1 b2 => Sys2Proof.Machine.execStyAbs b1 b2 s
  | .staAbs b1 b2 => Sys2Proof.Machine.execStaAbs b1 b2 s
  | .stxAbs b1 b2 => Sys2Proof.Machine.execStxAbs b1 b2 s
  | .saxAbs b1 b2 => Sys2Proof.Machine.execSaxAbs b1 b2 s
  | .bcc b1 => Sys2Proof.Machine.execBcc b1 s
  | .staIndY b1 => Sys2Proof.Machine.execStaIndY b1 s
  | .jam92 => Sys2Proof.Machine.execJam92 s
  | .shaIndY b1 => Sys2Proof.Machine.execShaIndY b1 s
  | .styZpX b1 => Sys2Proof.Machine.execStyZpX b1 s
  | .staZpX b1 => Sys2Proof.Machine.execStaZpX b1 s
  | .stxZpY b1 => Sys2Proof.Machine.execStxZpY b1 s
  | .saxZpY b1 => Sys2Proof.Machine.execSaxZpY b1 s
  | .tya => Sys2Proof.Machine.execTya s
  | .staAbsY b1 b2 => Sys2Proof.Machine.execStaAbsY b1 b2 s
  | .txs => Sys2Proof.Machine.execTxs s
  | .shsAbsY b1 b2 => Sys2Proof.Machine.execShsAbsY b1 b2 s
  | .shyAbsX b1 b2 => Sys2Proof.Machine.execShyAbsX b1 b2 s
  | .staAbsX b1 b2 => Sys2Proof.Machine.execStaAbsX b1 b2 s
  | .shxAbsY b1 b2 => Sys2Proof.Machine.execShxAbsY b1 b2 s
  | .shaAbsY b1 b2 => Sys2Proof.Machine.execShaAbsY b1 b2 s
  | .ldyImm b1 => Sys2Proof.Machine.execLdyImm b1 s
  | .ldaIndX b1 => Sys2Proof.Machine.execLdaIndX b1 s
  | .ldxImm b1 => Sys2Proof.Machine.execLdxImm b1 s
  | .laxIndX b1 => Sys2Proof.Machine.execLaxIndX b1 s
  | .ldyZp b1 => Sys2Proof.Machine.execLdyZp b1 s
  | .ldaZp b1 => Sys2Proof.Machine.execLdaZp b1 s
  | .ldxZp b1 => Sys2Proof.Machine.execLdxZp b1 s
  | .laxZp b1 => Sys2Proof.Machine.execLaxZp b1 s
  | .tay => Sys2Proof.Machine.execTay s
  | .ldaImm b1 => Sys2Proof.Machine.execLdaImm b1 s
  | .tax => Sys2Proof.Machine.execTax s
  | .laxImm b1 => Sys2Proof.Machine.execLaxImm b1 s
  | .ldyAbs b1 b2 => Sys2Proof.Machine.execLdyAbs b1 b2 s
  | .ldaAbs b1 b2 => Sys2Proof.Machine.execLdaAbs b1 b2 s
  | .ldxAbs b1 b2 => Sys2Proof.Machine.execLdxAbs b1 b2 s
  | .laxAbs b1 b2 => Sys2Proof.Machine.execLaxAbs b1 b2 s
  | .bcs b1 => Sys2Proof.Machine.execBcs b1 s
  | .ldaIndY b1 => Sys2Proof.Machine.execLdaIndY b1 s
  | .jamB2 => Sys2Proof.Machine.execJamB2 s
  | .laxIndY b1 => Sys2Proof.Machine.execLaxIndY b1 s
  | .ldyZpX b1 => Sys2Proof.Machine.execLdyZpX b1 s
  | .ldaZpX b1 => Sys2Proof.Machine.execLdaZpX b1 s
  | .ldxZpY b1 => Sys2Proof.Machine.execLdxZpY b1 s
  | .laxZpY b1 => Sys2Proof.Machine.execLaxZpY b1 s
  | .clv => Sys2Proof.Machine.execClv s
  | .ldaAbsY b1 b2 => Sys2Proof.Machine.execLdaAbsY b1 b2 s
  | .tsx => Sys2Proof.Machine.execTsx s
  | .lasAbsY b1 b2 => Sys2Proof.Machine.execLasAbsY b1 b2 s
  | .ldyAbsX b1 b2 => Sys2Proof.Machine.execLdyAbsX b1 b2 s
  | .ldaAbsX b1 b2 => Sys2Proof.Machine.execLdaAbsX b1 b2 s
  | .ldxAbsY b1 b2 => Sys2Proof.Machine.execLdxAbsY b1 b2 s
  | .laxAbsY b1 b2 => Sys2Proof.Machine.execLaxAbsY b1 b2 s
  | .cpyImm b1 => Sys2Proof.Machine.execCpyImm b1 s
  | .cmpIndX b1 => Sys2Proof.Machine.execCmpIndX b1 s
  | .nopImmC2 b1 => Sys2Proof.Machine.execNopImmC2 b1 s
  | .dcpIndX b1 => Sys2Proof.Machine.execDcpIndX b1 s
  | .cpyZp b1 => Sys2Proof.Machine.execCpyZp b1 s
  | .cmpZp b1 => Sys2Proof.Machine.execCmpZp b1 s
  | .decZp b1 => Sys2Proof.Machine.execDecZp b1 s
  | .dcpZp b1 => Sys2Proof.Machine.execDcpZp b1 s
  | .iny => Sys2Proof.Machine.execIny s
  | .cmpImm b1 => Sys2Proof.Machine.execCmpImm b1 s
  | .dex => Sys2Proof.Machine.execDex s
  | .sbxImm b1 => Sys2Proof.Machine.execSbxImm b1 s
  | .cpyAbs b1 b2 => Sys2Proof.Machine.execCpyAbs b1 b2 s
  | .cmpAbs b1 b2 => Sys2Proof.Machine.execCmpAbs b1 b2 s
  | .decAbs b1 b2 => Sys2Proof.Machine.execDecAbs b1 b2 s
  | .dcpAbs b1 b2 => Sys2Proof.Machine.execDcpAbs b1 b2 s
  | .bne b1 => Sys2Proof.Machine.execBne b1 s
  | .cmpIndY b1 => Sys2Proof.Machine.execCmpIndY b1 s
  | .jamD2 => Sys2Proof.Machine.execJamD2 s
  | .dcpIndY b1 => Sys2Proof.Machine.execDcpIndY b1 s
  | .nopZpXD4 b1 => Sys2Proof.Machine.execNopZpXD4 b1 s
  | .cmpZpX b1 => Sys2Proof.Machine.execCmpZpX b1 s
  | .decZpX b1 => Sys2Proof.Machine.execDecZpX b1 s
  | .dcpZpX b1 => Sys2Proof.Machine.execDcpZpX b1 s
  | .cld => Sys2Proof.Machine.execCld s
  | .cmpAbsY b1 b2 => Sys2Proof.Machine.execCmpAbsY b1 b2 s
  | .nopDA => Sys2Proof.Machine.execNopDA s
  | .dcpAbsY b1 b2 => Sys2Proof.Machine.execDcpAbsY b1 b2 s
  | .nopAbsXDC b1 b2 => Sys2Proof.Machine.execNopAbsXDC b1 b2 s
  | .cmpAbsX b1 b2 => Sys2Proof.Machine.execCmpAbsX b1 b2 s
  | .decAbsX b1 b2 => Sys2Proof.Machine.execDecAbsX b1 b2 s
  | .dcpAbsX b1 b2 => Sys2Proof.Machine.execDcpAbsX b1 b2 s
  | .cpxImm b1 => Sys2Proof.Machine.execCpxImm b1 s
  | .sbcIndX b1 => Sys2Proof.Machine.execSbcIndX b1 s
  | .nopImmE2 b1 => Sys2Proof.Machine.execNopImmE2 b1 s
  | .iscIndX b1 => Sys2Proof.Machine.execIscIndX b1 s
  | .cpxZp b1 => Sys2Proof.Machine.execCpxZp b1 s
  | .sbcZp b1 => Sys2Proof.Machine.execSbcZp b1 s
  | .incZp b1 => Sys2Proof.Machine.execIncZp b1 s
  | .iscZp b1 => Sys2Proof.Machine.execIscZp b1 s
  | .inx => Sys2Proof.Machine.execInx s
  | .sbcImm b1 => Sys2Proof.Machine.execSbcImm b1 s
  | .nop => Sys2Proof.Machine.execNop s
  | .sbcImmEB b1 => Sys2Proof.Machine.execSbcImmEB b1 s
  | .cpxAbs b1 b2 => Sys2Proof.Machine.execCpxAbs b1 b2 s
  | .sbcAbs b1 b2 => Sys2Proof.Machine.execSbcAbs b1 b2 s
  | .incAbs b1 b2 => Sys2Proof.Machine.execIncAbs b1 b2 s
  | .iscAbs b1 b2 => Sys2Proof.Machine.execIscAbs b1 b2 s
  | .beq b1 => Sys2Proof.Machine.execBeq b1 s
  | .sbcIndY b1 => Sys2Proof.Machine.execSbcIndY b1 s
  | .jamF2 => Sys2Proof.Machine.execJamF2 s
  | .iscIndY b1 => Sys2Proof.Machine.execIscIndY b1 s
  | .nopZpXF4 b1 => Sys2Proof.Machine.execNopZpXF4 b1 s
  | .sbcZpX b1 => Sys2Proof.Machine.execSbcZpX b1 s
  | .incZpX b1 => Sys2Proof.Machine.execIncZpX b1 s
  | .iscZpX b1 => Sys2Proof.Machine.execIscZpX b1 s
  | .sed => Sys2Proof.Machine.execSed s
  | .sbcAbsY b1 b2 => Sys2Proof.Machine.execSbcAbsY b1 b2 s
  | .nopFA => Sys2Proof.Machine.execNopFA s
  | .iscAbsY b1 b2 => Sys2Proof.Machine.execIscAbsY b1 b2 s
  | .nopAbsXFC b1 b2 => Sys2Proof.Machine.execNopAbsXFC b1 b2 s
  | .sbcAbsX b1 b2 => Sys2Proof.Machine.execSbcAbsX b1 b2 s
  | .incAbsX b1 b2 => Sys2Proof.Machine.execIncAbsX b1 b2 s
  | .iscAbsX b1 b2 => Sys2Proof.Machine.execIscAbsX b1 b2 s

end Sys2Proof.Machine
end

