-- ==== Sys2Proof/Machine/Fetch.lean ====
section
/-! DEFINITION. Fetching an instruction (00_scope.md R12, 20_memory.md R64), and placing one where the next step
fetches it. -/

namespace Sys2Proof.Machine

/-- The instruction at PC: opcode at `pc0`, operand bytes at `pc0 + 1` and `pc0 + 2` modulo 65536 (R12, R26). An
instruction shorter than three bytes does not depend on the bytes after it (R81); a read changes no state (R52). -/
def fetch (s : State) : Instr :=
  decodeOpcode (s.read .opcode s.pc) (s.read .operand1 (s.pc + 1)) (s.read .operand2 (s.pc + 2))

/-- The first `n` bytes that the fetch reads, in memory order. -/
def fetchedBytes (n : Nat) (s : State) : List Byte :=
  [s.read .opcode s.pc, s.read .operand1 (s.pc + 1), s.read .operand2 (s.pc + 2)].take n

/-- Whether memory answers at an address, so that a stored byte is what a fetch reads. -/
def isMemory (a : Addr) (s : State) : Bool :=
  match kindAt s.plat a with
  | .ram | .rom => true
  | .device _ | .unmapped => false

/-- Store a byte at an address from outside the machine, into RAM or ROM; where the platform has neither, RAM is put
there first. -/
def placeByte (a : Addr) (v : Byte) (s : State) : State :=
  let t := if isMemory a s then s else
    { s with plat := { s.plat with memMap := { lo := a.toNat, hi := a.toNat, kind := .ram } :: s.plat.memMap } }
  { t with mem := Memory.put t.mem a.toNat v }

/-- Store bytes at consecutive addresses from outside the machine. -/
def placeBytes (a : Addr) : List Byte → State → State
  | [], s => s
  | v :: vs, s => placeBytes (a + 1) vs (placeByte a v s)

/-- The state whose next step fetches and runs the instruction with these bytes: they stand at PC, and nothing takes
precedence over an instruction at the boundary (log 3). -/
def placeInstruction (bytes : List Byte) (s : State) : State :=
  placeBytes s.pc bytes
    { s with halted := false, nmiPending := false, irqLine := false, resetLine := false, env := [] }

end Sys2Proof.Machine
end

