-- ==== Sys2Proof/Machine/Interrupts.lean ====
section
/-! DEFINITION. The environment's steps and the choice made at each boundary (60_exceptions.md R260 to R270). -/

namespace Sys2Proof.Machine

/-! ### The environment -/

/-- One step of the environment (R260). An NMI event sets the latch (R265), but not while the CPU is halted (D15,
R236). Asserting the set-overflow line sets V when the platform uses the pin (R41, D17, log 16). -/
def State.applyEvent (s : State) : EnvEvent → State
  | .irqLine level => { s with irqLine := level }
  | .nmi => { s with nmiPending := s.nmiPending || !s.halted }
  | .resetLine level => { s with resetLine := level }
  | .soLine level =>
    { s with soLine := level, p := { s.p with v := s.p.v || (s.plat.soUsed && level && !s.soLine) } }

/-- The environment's steps at the boundary where a step begins, and the interrupt it signals during the step
(R260, R271); an exhausted schedule does nothing (log 5). DESIGN CHOICE (log 28): the CPU sees the lines only after all
of an entry's steps, so a reset line asserted and released within one entry gives no reset, also while halted, where
R266 says "at any time while halted". -/
def State.takeInput (s : State) : State :=
  match s.env with
  | [] => { s with during := none }
  | e :: rest => { e.before.foldl State.applyEvent { s with env := rest } with during := e.during }

/-! ### Recognition at a boundary -/

/-- What the CPU does in one step (R260, R270, R278). -/
inductive Event where
  /-- The reset sequence. -/
  | reset
  /-- Nothing: the CPU is halted and only RESET leaves that state (R236, R278). -/
  | halted
  /-- The NMI sequence. -/
  | nmi
  /-- The IRQ sequence. -/
  | irq
  /-- One instruction. -/
  | instruction
deriving DecidableEq, Repr

/-- Whether an IRQ is enabled at this boundary (R270): I decides; right after CLI, SEI or PLP, where `iPrev` may
differ from I, both outcomes are admitted, so a free bit decides (D27, log 14). -/
def irqEnabled (s : State) : Bool :=
  if s.p.i = s.iPrev then !s.p.i else Config.freeBit s.draws .irqLatitude

/-- What happens at a boundary: RESET before NMI before IRQ before an instruction (R269, R270); a halted CPU responds
to RESET only (R266, R278), by the level the line has after the boundary's environment steps (log 28). -/
def nextEvent (s : State) : Event :=
  if s.resetLine then .reset
  else if s.halted then .halted
  else if s.nmiPending then .nmi
  else if s.irqLine && irqEnabled s then .irq
  else .instruction

/-- NMI entry: the latch is cleared; the return address is that of the next instruction; B = 0 (R265). -/
def State.nmiEntry (s : State) : State :=
  { s with nmiPending := false }.interruptSequence s.pc nmiVector false

/-- IRQ entry: the return address is that of the next instruction; B = 0; the line stays as it is (R264). -/
def State.irqEntry (s : State) : State := s.interruptSequence s.pc irqVector false

end Sys2Proof.Machine
end

