-- ==== Sys2Proof/Machine/Step.lean ====
section
/-! DEFINITION. One step of the machine: the environment's steps, then one of the CPU's four kinds of step
(60_exceptions.md R260, R270), or none while it is halted (R278). -/

namespace Sys2Proof.Machine

/-- The CPU's part of a step: a reset sequence, an interrupt sequence, or one instruction (R12, R270). A halted CPU
stays as it is until RESET (R236, R278). -/
def cpuStep (s : State) : Host.Outcome State Fault Refusal :=
  match nextEvent s with
  | .reset => .next s.resetSequence
  | .halted => .next s
  | .nmi => .next s.nmiEntry
  | .irq => .next s.irqEntry
  | .instruction => exec (fetch s) s

/-- One step: the environment's input, then the CPU (R260, R270). -/
def step (s : State) : Host.Outcome State Fault Refusal := cpuStep s.takeInput

/-- `s` with the instruction whose table word is `w` stored where the next step fetches, and with nothing pending
that would come before it (log 3). -/
def State.withFetchWord (s : State) (nbits w : Nat) : State := placeInstruction (tableBytes nbits w) s

end Sys2Proof.Machine
end

