-- ==== Sys2Proof/Machine/Bus.lean ====
section
/-! DEFINITION. The accesses an instruction makes and their order (20_memory.md R57 to R60, 40_addressing_modes.md
R114), as a function beside the machine: State keeps no record of them, since reads change nothing and the order of
one instruction's accesses is unobservable in it (R60, log 18). -/

namespace Sys2Proof.Machine

/-- One access to the one address space; each moves one byte (R50, R56). -/
inductive Access where
  | read (a : Addr)
  | write (a : Addr)
deriving DecidableEq, Repr

/-- What an instruction does with its operand or the stack, by mnemonic (R114 and the instruction rules). -/
inductive Traffic where
  /-- No access beyond the instruction bytes. -/
  | none
  /-- Class read (R114). -/
  | read
  /-- Class write (R114). -/
  | write
  /-- Class read/modify/write (R114). -/
  | readModifyWrite
  /-- This many pushes (R27). -/
  | push (n : Nat)
  /-- This many pulls (R27). -/
  | pull (n : Nat)
  /-- The interrupt sequence of BRK (R262). -/
  | interrupt
deriving DecidableEq, Repr

/-- The traffic of each mnemonic (R114, R170 to R174, R206 to R209, R239). -/
def mnemonicTraffic : Mnemonic → Traffic
  | .adc | .and | .bit | .cmp | .cpx | .cpy | .eor | .lda | .ldx | .ldy | .ora | .sbc => .read
  | .anc | .arr | .asr | .las | .lax | .sbx | .xaa | .sbcUndoc | .nopUndoc => .read
  | .sta | .stx | .sty | .sax | .sha | .shs | .shx | .shy => .write
  | .asl | .lsr | .rol | .ror | .inc | .dec | .slo | .rla | .sre | .rra | .dcp | .isc => .readModifyWrite
  | .pha | .php => .push 1
  | .jsr => .push 2
  | .pla | .plp => .pull 1
  | .rts => .pull 2
  | .rti => .pull 3
  | .brk => .interrupt
  | .bcc | .bcs | .beq | .bmi | .bne | .bpl | .bvc | .bvs | .jmp | .jam | .nop => .none
  | .clc | .cld | .cli | .clv | .sec | .sed | .sei => .none
  | .dex | .dey | .inx | .iny | .tax | .tay | .tsx | .txa | .txs | .tya => .none

/-- The fetch of the instruction's bytes: R60 (1) to (3). -/
def fetchAccesses (n : Nat) (s : State) : List Access :=
  (List.range n).map fun k => .read (s.pc + BitVec.ofNat 16 k)

/-- The reads by which a mode finds its address: the pointer's low byte, then its high byte, R60 (4); the discarded
read of the un-indexed address, R60 (5), R58. -/
def modeAccesses (m : MemMode) (s : State) : List Access :=
  match m with
  | .indX b1 => [.read (zext (b1 + s.x)), .read (zext (b1 + s.x + 1))]
  | .indY b1 => [.read (zext b1), .read (zext (b1 + 1))]
  | .absX _ _ | .absY _ _ => [.read (baseAddr m s)]
  | .zp _ | .zpX _ | .zpY _ | .abs _ _ => []

/-- The pushes of `n` bytes, highest address first (R27). -/
def pushAccesses (n : Nat) (s : State) : List Access :=
  (List.range n).map fun k => .write (stackAddr (s.sp - BitVec.ofNat 8 k))

/-- The pulls of `n` bytes, lowest address first (R27). -/
def pullAccesses (n : Nat) (s : State) : List Access :=
  (List.range n).map fun k => .read (stackAddr (s.sp + BitVec.ofNat 8 (k + 1)))

/-- The vector that BRK reads: the IRQ vector, or that of the NMI that collides with it (R170, R271). -/
def brkVector (s : State) : Addr :=
  match brkCollision s with
  | some .nmi => nmiVector
  | some .irq | none => irqVector

/-- The accesses at the effective address and on the stack, in the order of R60 (6), (7) and of the instruction's
rule. -/
def operandAccesses (t : Traffic) (o : Operand) (s : State) : List Access :=
  match t, o with
  | .read, .memory m => modeAccesses m s ++ [.read (effAddr m s)]
  | .write, .memory m => modeAccesses m s ++ [.write (effAddr m s)]
  | .readModifyWrite, .memory m => modeAccesses m s ++ [.read (effAddr m s), .write (effAddr m s)]
  | .push n, _ => pushAccesses n s
  | .pull n, _ => pullAccesses n s
  | .interrupt, _ => pushAccesses 3 s ++ [.read (brkVector s), .read (brkVector s + 1)]
  | .none, .indirect b1 b2 => [.read (join b2 b1), .read (nextInPage (join b2 b1))]
  | .none, _ | .read, _ | .write, _ | .readModifyWrite, _ => []

/-- All accesses of an instruction executed in a state, in their order (R60). -/
def busTrace (i : Instr) (s : State) : List Access :=
  fetchAccesses i.length s ++ operandAccesses (mnemonicTraffic i.mnemonic) i.operand s

/-- The addresses an instruction stores to, oldest first. -/
def storedAddrs (i : Instr) (s : State) : List Addr :=
  (operandAccesses (mnemonicTraffic i.mnemonic) i.operand s).filterMap fun
    | .write a => some a
    | .read _ => none

end Sys2Proof.Machine
end

