-- ==== Sys2Proof/Machine/Timing.lean ====
section
/-! DEFINITION. Cycle counts, as a cost function beside the machine (70_reset_and_hazards.md R300 to R303). No rule
depends on them and no program can read them; the source gives none for interrupt and reset sequences (log 17). -/

namespace Sys2Proof.Machine

/-- The cycle strings of the timing table (R300, R301). -/
inductive Timing where
  /-- A fixed number of cycles. -/
  | fixed (n : Nat)
  /-- `n+p`: one more if the access crosses a page. -/
  | paged (n : Nat)
  /-- `2+t+p`: one more if the branch is taken, and one more if it is taken to another page. -/
  | branch
  /-- `X`: the instruction never completes. -/
  | never
deriving DecidableEq, Repr

/-- The timing table, by high and low nibble of the opcode byte (R300). -/
def timingTable : List (List Timing) := [
  [.fixed 7, .fixed 6, .never, .fixed 8, .fixed 3, .fixed 3, .fixed 5, .fixed 5, .fixed 3, .fixed 2, .fixed 2,
   .fixed 2, .fixed 4, .fixed 4, .fixed 6, .fixed 6],
  [.branch, .paged 5, .never, .fixed 8, .fixed 4, .fixed 4, .fixed 6, .fixed 6, .fixed 2, .paged 4, .fixed 2,
   .fixed 7, .paged 4, .paged 4, .fixed 7, .fixed 7],
  [.fixed 6, .fixed 6, .never, .fixed 8, .fixed 3, .fixed 3, .fixed 5, .fixed 5, .fixed 4, .fixed 2, .fixed 2,
   .fixed 2, .fixed 4, .fixed 4, .fixed 6, .fixed 6],
  [.branch, .paged 5, .never, .fixed 8, .fixed 4, .fixed 4, .fixed 6, .fixed 6, .fixed 2, .paged 4, .fixed 2,
   .fixed 7, .paged 4, .paged 4, .fixed 7, .fixed 7],
  [.fixed 6, .fixed 6, .never, .fixed 8, .fixed 3, .fixed 3, .fixed 5, .fixed 5, .fixed 3, .fixed 2, .fixed 2,
   .fixed 2, .fixed 3, .fixed 4, .fixed 6, .fixed 6],
  [.branch, .paged 5, .never, .fixed 8, .fixed 4, .fixed 4, .fixed 6, .fixed 6, .fixed 2, .paged 4, .fixed 2,
   .fixed 7, .paged 4, .paged 4, .fixed 7, .fixed 7],
  [.fixed 6, .fixed 6, .never, .fixed 8, .fixed 3, .fixed 3, .fixed 5, .fixed 5, .fixed 4, .fixed 2, .fixed 2,
   .fixed 2, .fixed 5, .fixed 4, .fixed 6, .fixed 6],
  [.branch, .paged 5, .never, .fixed 8, .fixed 4, .fixed 4, .fixed 6, .fixed 6, .fixed 2, .paged 4, .fixed 2,
   .fixed 7, .paged 4, .paged 4, .fixed 7, .fixed 7],
  [.fixed 2, .fixed 6, .fixed 2, .fixed 6, .fixed 3, .fixed 3, .fixed 3, .fixed 3, .fixed 2, .fixed 2,
   .fixed 2, .fixed 2, .fixed 4, .fixed 4, .fixed 4, .fixed 4],
  [.branch, .fixed 6, .never, .fixed 6, .fixed 4, .fixed 4, .fixed 4, .fixed 4, .fixed 2, .fixed 5, .fixed 2,
   .fixed 5, .fixed 5, .fixed 5, .fixed 5, .fixed 5],
  [.fixed 2, .fixed 6, .fixed 2, .fixed 6, .fixed 3, .fixed 3, .fixed 3, .fixed 3, .fixed 2, .fixed 2,
   .fixed 2, .fixed 2, .fixed 4, .fixed 4, .fixed 4, .fixed 4],
  [.branch, .paged 5, .never, .paged 5, .fixed 4, .fixed 4, .fixed 4, .fixed 4, .fixed 2, .paged 4, .fixed 2,
   .paged 4, .paged 4, .paged 4, .paged 4, .paged 4],
  [.fixed 2, .fixed 6, .fixed 2, .fixed 8, .fixed 3, .fixed 3, .fixed 5, .fixed 5, .fixed 2, .fixed 2,
   .fixed 2, .fixed 2, .fixed 4, .fixed 4, .fixed 6, .fixed 6],
  [.branch, .paged 5, .never, .fixed 8, .fixed 4, .fixed 4, .fixed 6, .fixed 6, .fixed 2, .paged 4, .fixed 2,
   .fixed 7, .paged 4, .paged 4, .fixed 7, .fixed 7],
  [.fixed 2, .fixed 6, .fixed 2, .fixed 8, .fixed 3, .fixed 3, .fixed 5, .fixed 5, .fixed 2, .fixed 2,
   .fixed 2, .fixed 2, .fixed 4, .fixed 4, .fixed 6, .fixed 6],
  [.branch, .paged 5, .never, .fixed 8, .fixed 4, .fixed 4, .fixed 6, .fixed 6, .fixed 2, .paged 4, .fixed 2,
   .fixed 7, .paged 4, .paged 4, .fixed 7, .fixed 7]]

/-- The cycle string of an instruction (R300). -/
def instrTiming (i : Instr) : Timing :=
  (timingTable.getD (i.opcode.toNat / 16) []).getD (i.opcode.toNat % 16) .never

/-- The condition of a branch (R151 to R158); false for every other instruction. -/
def instrBranchTaken (i : Instr) (s : State) : Bool :=
  match i.mnemonic with
  | .bcc => !s.p.c
  | .bcs => s.p.c
  | .beq => s.p.z
  | .bne => !s.p.z
  | .bmi => s.p.n
  | .bpl => !s.p.n
  | .bvc => !s.p.v
  | .bvs => s.p.v
  | _ => false

/-- Whether an indexed access crosses a page, or a branch's target is on another page than the next instruction
(R115). -/
def instrPageCrossed (i : Instr) (s : State) : Bool :=
  match i.operand with
  | .memory m => crossesPage m s
  | .relative b1 => hi (branchTarget b1 s) != hi (s.pc + 2)
  | .implied | .accumulator | .immediate _ | .indirect _ _ => false

/-- The number of clock cycles of an instruction executed in a state; none for an instruction that never completes
(R300, R301, R115). -/
def instrCycles (i : Instr) (s : State) : Option Nat :=
  match instrTiming i with
  | .fixed n => some n
  | .paged n => some (n + bitVal (instrPageCrossed i s))
  | .branch => some (2 + bitVal (instrBranchTaken i s) + bitVal (instrBranchTaken i s && instrPageCrossed i s))
  | .never => none

end Sys2Proof.Machine
end

