-- ==== Sys2Proof/Safety.lean ====
section
/-! DEFINITION. The terms in which claims are stated: runs and what ends them (92_eei_decisions.md D23), the invariant
of every step, what an instruction stores, the rows of the opcode map, and the flag columns of 10_state.md R38. -/

namespace Sys2Proof.Machine

/-! ### Runs -/

/-- `END_OF_RUN` (R5, D23): a predicate on states, chosen by whoever runs a program (log 22). -/
abbrev EndOfRun := State → Bool

/-- PC has reached an address at a boundary. -/
def pcReached (a : Addr) : EndOfRun := fun s => s.pc == a

/-- The CPU is halted by JAM (R236). -/
def cpuHalted : EndOfRun := State.halted

/-- Steps until the run ends, at most `k` of them. -/
def runUntil (ends : EndOfRun) : Nat → State → Result
  | 0, s => .next s
  | k + 1, s =>
    if ends s then .next s
    else match step s with
      | .next t => runUntil ends k t
      | .fault r => .fault r
      | .refused r => .refused r

/-- A run of `k` steps stops nowhere: every step answers a next state. -/
def RunsOn (k : Nat) (s : State) : Prop := ∃ t, Sys2Proof.core.run k s = .next t

/-- No address of the platform is a device whose reads have side effects, so that nothing is refused (D16). -/
def NoReadEffects (p : Platform) : Prop := ∀ a : Addr, kindAt p a ≠ .device true

/-- What `UnstableOps` says of an instruction executed in a state; ARR is unstable with D = 1 only, and an instruction
that R230 does not sort among the fragile or nondeterministic executes its rule (R5, R230). -/
def unstableUse (i : Instr) (s : State) : UnstableUse :=
  match i with
  | .xaaImm _ => s.plat.unstable.xaa
  | .laxImm _ => s.plat.unstable.laxImm
  | .shaIndY _ => s.plat.unstable.shaIndY
  | .shaAbsY _ _ => s.plat.unstable.shaAbsY
  | .shxAbsY _ _ => s.plat.unstable.shxAbsY
  | .shyAbsX _ _ => s.plat.unstable.shyAbsX
  | .shsAbsY _ _ => s.plat.unstable.shsAbsY
  | .arrImm _ => if s.p.d then s.plat.unstable.arrDecimal else .rule
  | _ => .rule

/-- `UnstableOps` refuses no opcode (R5). -/
def NoUnstableRefusal (u : UnstableOps) : Prop :=
  ∀ x ∈ [u.xaa, u.laxImm, u.shaIndY, u.shaAbsY, u.shxAbsY, u.shyAbsX, u.shsAbsY, u.arrDecimal], x ≠ .refuse

/-! ### The invariant of every step -/

/-- What holds after every step of a state in which it holds: memory is in its canonical form, and a halted CPU has
no NMI latched (R236: an NMI edge arriving while halted is lost). -/
structure Inv (s : State) : Prop where
  memory : Memory.wf s.mem = true
  haltedLatch : s.halted = true → s.nmiPending = false

/-! ### What an instruction stores -/

/-- `t` holds the stored bytes of `s` but for these cells, whose addresses differ: in RAM each holds its new byte, and
where the platform has no RAM nothing changes (R53). -/
def StoresExactly (s t : State) (cells : List (Addr × Byte)) : Prop :=
  (∀ a, (∀ c ∈ cells, a ≠ c.1) → t.byteAt a = s.byteAt a) ∧
  (∀ c ∈ cells, kindAt s.plat c.1 = .ram → Memory.wf s.mem = true → t.byteAt c.1 = c.2) ∧
  (∀ c ∈ cells, kindAt s.plat c.1 ≠ .ram → t.byteAt c.1 = s.byteAt c.1)

/-- The stack page is RAM (R292 item 2). -/
def StackIsRam (p : Platform) : Prop := ∀ b : Byte, kindAt p (stackAddr b) = .ram

/-! ### Rows of the opcode map -/

/-- The instruction is the row of the opcode map with this opcode byte, addressing mode and cycle string (R88, R300). -/
def IsRow (i : Instr) (opcode : Byte) (o : Operand) (cycles : Timing) : Prop :=
  encode i = opcode :: o.bytes ∧ i.operand = o ∧ instrTiming i = cycles

/-- A row of an instruction of class read (R114). -/
structure ReadRow where
  instr : Instr
  opcode : Byte
  source : Source
  cycles : Timing

/-- A row of an instruction of class write or read/modify/write (R114). -/
structure MemRow where
  instr : Instr
  opcode : Byte
  mode : MemMode
  cycles : Timing

/-- The addressing mode of a class-read operand. -/
def sourceOperand : Source → Operand
  | .immediate b1 => .immediate b1
  | .memory m => .memory m

/-- The row is a row of the opcode map. -/
def ReadRow.Correct (r : ReadRow) : Prop := IsRow r.instr r.opcode (sourceOperand r.source) r.cycles

/-- The row is a row of the opcode map. -/
def MemRow.Correct (r : MemRow) : Prop := IsRow r.instr r.opcode (.memory r.mode) r.cycles

/-- The access class of an instruction with a memory operand (R114). -/
def accessClass (i : Instr) : Option AccessClass :=
  match mnemonicTraffic i.mnemonic with
  | .read => some .read
  | .write => some .write
  | .readModifyWrite => some .readModifyWrite
  | .none | .push _ | .pull _ | .interrupt => none

/-! ### Flag columns -/

/-- What an instruction does to one flag (R14). -/
inductive FlagUse where
  /-- `-`: not changed. -/
  | kept
  /-- A letter or `*`: written with a value that the instruction's rule gives. -/
  | written
  /-- `0`: written 0. -/
  | cleared
  /-- `1`: written 1. -/
  | set
deriving DecidableEq, Repr

/-- The flag column of a mnemonic, without bits 5 and 4, which no row writes (R14, R31). -/
structure FlagColumn where
  n : FlagUse
  v : FlagUse
  d : FlagUse
  i : FlagUse
  z : FlagUse
  c : FlagUse
deriving DecidableEq, Repr

/-- The flag columns of R38. -/
def flagColumn : Mnemonic → FlagColumn
  | .brk | .sei =>
    ⟨.kept, .kept, .kept, .set, .kept, .kept⟩
  | .ora | .and | .eor | .pla | .dey | .txa | .xaa | .tya | .ldy | .lda | .ldx | .lax | .tay | .tax
  | .tsx | .las | .dec | .iny | .dex | .inc | .inx =>
    ⟨.written, .kept, .kept, .kept, .written, .kept⟩
  | .jam | .nopUndoc | .php | .bpl | .jsr | .bmi | .pha | .jmp | .bvc | .rts | .bvs | .sta | .sax
  | .sty | .stx | .bcc | .sha | .txs | .shs | .shy | .shx | .bcs | .bne | .nop | .beq =>
    ⟨.kept, .kept, .kept, .kept, .kept, .kept⟩
  | .slo | .asl | .anc | .rla | .rol | .sre | .ror | .cpy | .cmp | .dcp | .sbx | .cpx =>
    ⟨.written, .kept, .kept, .kept, .written, .written⟩
  | .clc =>
    ⟨.kept, .kept, .kept, .kept, .kept, .cleared⟩
  | .bit =>
    ⟨.written, .written, .kept, .kept, .written, .kept⟩
  | .plp | .rti =>
    ⟨.written, .written, .written, .written, .written, .written⟩
  | .sec =>
    ⟨.kept, .kept, .kept, .kept, .kept, .set⟩
  | .lsr | .asr =>
    ⟨.cleared, .kept, .kept, .kept, .written, .written⟩
  | .cli =>
    ⟨.kept, .kept, .kept, .cleared, .kept, .kept⟩
  | .adc | .rra | .arr | .sbc | .isc | .sbcUndoc =>
    ⟨.written, .written, .kept, .kept, .written, .written⟩
  | .clv =>
    ⟨.kept, .cleared, .kept, .kept, .kept, .kept⟩
  | .cld =>
    ⟨.kept, .kept, .cleared, .kept, .kept, .kept⟩
  | .sed =>
    ⟨.kept, .kept, .set, .kept, .kept, .kept⟩

/-- What a flag use says of the flag before and after (R14). -/
def FlagUse.Holds (u : FlagUse) (before after : Bool) : Prop :=
  match u with
  | .kept => after = before
  | .written => True
  | .cleared => after = false
  | .set => after = true

/-- What a flag column says of P before and after (R14). -/
def FlagColumn.Holds (u : FlagColumn) (p q : Status) : Prop :=
  u.n.Holds p.n q.n ∧ u.v.Holds p.v q.v ∧ u.d.Holds p.d q.d ∧ u.i.Holds p.i q.i ∧ u.z.Holds p.z q.z ∧ u.c.Holds p.c q.c

/-! ### Writers of the registers -/

/-- The mnemonics that write A in every form (R22). -/
def writersOfA : List Mnemonic :=
  [.adc, .sbc, .and, .ora, .eor, .lda, .pla, .txa, .tya, .anc, .arr, .asr, .isc, .las, .lax, .rla, .rra, .slo, .sre,
   .xaa, .sbcUndoc]

/-- The mnemonics that write X (R23). -/
def writersOfX : List Mnemonic := [.ldx, .tax, .tsx, .inx, .dex, .las, .lax, .sbx]

/-- The mnemonics that write Y (R24). -/
def writersOfY : List Mnemonic := [.ldy, .tay, .iny, .dey]

/-- The mnemonics that write S: TXS, LAS, SHS, and those that push or pull (R25, R27). -/
def writersOfS : List Mnemonic := [.txs, .las, .shs, .pha, .php, .pla, .plp, .jsr, .rts, .rti, .brk]

end Sys2Proof.Machine
end

