-- ==== Sys2Proof/Certificates/Slice0/Obligations.lean ====
section
/-! DEFINITION. The statements for the provers, from the spec's numbered rules. In a row (`ReadRow`, `MemRow`) stand the
instruction, its opcode byte, its operand and its cycle string; `State.retire len` is the end of an instruction that
transfers no control: PC plus `len`, `iPrev` the current I, the draw counter plus 1 (the
counter is the model's own field, log 6). -/

open Sys2Proof Sys2Proof.Machine

/-- For every instruction i (all 256 constructors, every value of the operand bytes) and every list of bytes after
it, decode of encode i followed by the rest is i and the rest.
Spec: 30_encoding.md section 2, 30_encoding.md section 3. -/
def Obligations.DecodeReadsEncodeBack : Prop :=
  ∀ (i : Instr) (rest : List Byte), decode (encode i ++ rest) = .ok (i, rest)

/-- If decode answers i and a rest for a list of bytes, that list is encode i followed by the rest: no byte is
skipped or read twice and no two images decode to one instruction.
Spec: 30_encoding.md section 1, 30_encoding.md section 3. -/
def Obligations.DecodedBytesAreTheEncoding : Prop :=
  ∀ (bytes rest : List Byte) (i : Instr), decode bytes = .ok (i, rest) → bytes = encode i ++ rest

/-- For all three bytes op, b1, b2 there is exactly one instruction whose opcode byte is op and whose image is a
prefix of them; the decoder answers it, with its length between 1 and 3. The length depends on the opcode byte
alone.
Spec: R83. -/
def Obligations.EveryOpcodeSelectsOneRow : Prop :=
  (∀ op b1 b2 : Byte, ∃ i : Instr, i.opcode = op ∧ encode i <+: [op, b1, b2] ∧ wellFormedImage (encode i) = true ∧
    decode [op, b1, b2] = .ok (i, [op, b1, b2].drop i.length) ∧
    ∀ j : Instr, j.opcode = op → encode j <+: [op, b1, b2] → j = i) ∧
  (∀ i j : Instr, i.opcode = j.opcode → i.length = j.length)

/-- One word of each family, its bytes written from the opcode map: 69 46 (ADC), 3D 00 02 (AND a16,X), 66 10 (ROR),
D0 F7 (BNE), 6C FF 02 (JMP indirect), F8 (SED), FE FF 10 (INC), B6 F0 (LDX a8,Y), 48 (PHA), 9A (TXS), 93 20
(SHA), EB 01 (*SBC), 1C F0 12 (*NOP), F2 (JAM).
Spec: 30_encoding.md section 3. -/
def Obligations.SampleWordsDecode : Prop :=
  decodeTableWord 16 0x4669 = some (.adcImm 0x46) ∧ decodeTableWord 24 0x02003D = some (.andAbsX 0x00 0x02) ∧
  decodeTableWord 16 0x1066 = some (.rorZp 0x10) ∧ decodeTableWord 16 0xF7D0 = some (.bne 0xF7) ∧
  decodeTableWord 24 0x02FF6C = some (.jmpInd 0xFF 0x02) ∧ decodeTableWord 8 0xF8 = some .sed ∧
  decodeTableWord 24 0x10FFFE = some (.incAbsX 0xFF 0x10) ∧ decodeTableWord 16 0xF0B6 = some (.ldxZpY 0xF0) ∧
  decodeTableWord 8 0x48 = some .pha ∧ decodeTableWord 8 0x9A = some .txs ∧
  decodeTableWord 16 0x2093 = some (.shaIndY 0x20) ∧ decodeTableWord 16 0x01EB = some (.sbcImmEB 0x01) ∧
  decodeTableWord 24 0x12F01C = some (.nopAbsX1C 0xF0 0x12) ∧ decodeTableWord 8 0xF2 = some .jamF2

/-- For every state whose memory has its canonical form and every instruction i, the step of the state with i's
table word placed at PC is exec of i on that state (with no interrupt signalled during it). How the word is
placed is the model's choice of log 3 (DESIGN CHOICE): withFetchWord stands for a load from outside the machine;
it clears halted, the NMI latch, the lines and the schedule, and puts RAM where no memory answers.
Spec: 00_scope.md section 5, 20_memory.md section 4. -/
def Obligations.PlacedInstructionRunsNext : Prop :=
  ∀ (s : State) (i : Instr), Memory.wf s.mem = true →
    step (s.withFetchWord (8 * i.length) i.tableWord) =
      exec i { s.withFetchWord (8 * i.length) i.tableWord with during := none }

/-- With u the state after the environment's input at the boundary: if no reset, halt, NMI or IRQ decides the
boundary and the bytes fetched at PC are the encoding of i, then step s is exec i u. Nothing else is added
around exec (the meanings advance PC).
Spec: R12, R270. -/
def Obligations.StepRunsDecodedInstruction : Prop :=
  ∀ (s : State) (i : Instr), nextEvent s.takeInput = .instruction →
    fetchedBytes i.length s.takeInput = encode i → step s = exec i s.takeInput

/-- With u the state after the environment's input: a true reset line gives the reset sequence; else a halted CPU
stays; else a latched NMI is taken; else an asserted IRQ line is taken when I and iPrev are both 0; it is masked
when both are 1; when they differ either the IRQ is taken or the instruction runs; with the line false the
instruction runs. That a halted CPU's step answers the same state u is the model's reading of R266 and R278, log
12 (DEDUCED); that a free bit decides where I and iPrev differ is log 14; that the reset line counts by its
level after the environment's input, a pulse within one input giving no reset, is the model's choice, log 28
(DESIGN CHOICE).
Spec: 60_exceptions.md R269, R270, 60_exceptions.md R266, R278, 49_undocumented.md R236. -/
def Obligations.BoundaryRecognition : Prop :=
  ∀ s : State, let u := s.takeInput
    (u.resetLine = true → step s = .next u.resetSequence) ∧
    (u.resetLine = false → u.halted = true → step s = .next u) ∧
    (u.resetLine = false → u.halted = false → u.nmiPending = true →
      step s = .next ({ u with nmiPending := false }.interruptSequence u.pc 0xFFFA false)) ∧
    (u.resetLine = false → u.halted = false → u.nmiPending = false →
      (u.irqLine = true → u.p.i = false → u.iPrev = false →
        step s = .next (u.interruptSequence u.pc 0xFFFE false)) ∧
      (u.irqLine = true → u.p.i = true → u.iPrev = true → step s = exec (fetch u) u) ∧
      (u.irqLine = true → u.p.i ≠ u.iPrev →
        step s = .next (u.interruptSequence u.pc 0xFFFE false) ∨ step s = exec (fetch u) u) ∧
      (u.irqLine = false → step s = exec (fetch u) u))

/-- The lines take the level given; an NMI event sets the latch, and one that arrives while the CPU is halted is
lost (R236, D15; log 12). Where the platform uses the set-overflow pin, asserting the line sets V if the line
was not asserted, and neither asserting it again nor releasing it changes V (the edge is the model's reading,
log 16); without the pin V never changes. The schedule hands out one entry per step (log 5), all of whose steps
are taken before the CPU looks at the lines (log 28); the step then clears nothing else.
Spec: 60_exceptions.md section 1, R41, 49_undocumented.md R236, 92_eei_decisions.md D15, D17. -/
def Obligations.EnvironmentSteps : Prop :=
  ∀ (s : State) (l : Bool),
    s.applyEvent (.irqLine l) = { s with irqLine := l } ∧
    s.applyEvent (.resetLine l) = { s with resetLine := l } ∧
    (s.halted = false → s.applyEvent .nmi = { s with nmiPending := true }) ∧
    (s.halted = true → s.applyEvent .nmi = s) ∧
    (s.plat.soUsed = false → s.applyEvent (.soLine l) = { s with soLine := l }) ∧
    (s.plat.soUsed = true → s.soLine = false →
      s.applyEvent (.soLine true) = { s with soLine := true, p := { s.p with v := true } }) ∧
    (s.plat.soUsed = true → s.soLine = true → s.applyEvent (.soLine true) = { s with soLine := true }) ∧
    (s.plat.soUsed = true → s.applyEvent (.soLine false) = { s with soLine := false }) ∧
    (∀ (es : List EnvEvent) (d : Option Interrupt) (rest : List EnvInput), s.env = ⟨es, d⟩ :: rest →
      s.takeInput = { es.foldl State.applyEvent { s with env := rest } with during := d }) ∧
    (s.env = [] → s.takeInput = { s with during := none })

/-- InterruptSequence(ret, vector, b), for the two vectors of the rule: the high and low byte of ret and the image
of P as it was (bit 5 one, bit 4 b) are stored at 0x0100+S, S-1, S-2 modulo 256 in the page and nowhere else; S
decreases by 3; I becomes 1 and no other flag changes; PC is the word at the vector; A, X, Y and everything else
keep their values (iPrev becomes the new I).
Spec: R262. -/
def Obligations.InterruptSequenceEffect : Prop :=
  ∀ (s : State) (ret vector : Addr) (b : Bool), vector = 0xFFFA ∨ vector = 0xFFFE →
    let t := s.interruptSequence ret vector b
    StoresExactly s t [(stackAddr s.sp, hi ret), (stackAddr (s.sp - 1), lo ret),
      (stackAddr (s.sp - 2), BitVec.ofNat 8 (128 * bitVal s.p.n + 64 * bitVal s.p.v + 32 + 16 * bitVal b +
        8 * bitVal s.p.d + 4 * bitVal s.p.i + 2 * bitVal s.p.z + bitVal s.p.c))] ∧
    t = { s with mem := t.mem, sp := s.sp - 3, p := { s.p with i := true }, iPrev := true, draws := s.draws + 1,
                 pc := join (s.read .vectorHigh (vector + 1)) (s.read .vectorLow vector) }

/-- ResetSequence clears halted and the NMI latch, sets I and iPrev, loads PC from 0xFFFC (low) and 0xFFFD (high),
writes no memory and pushes nothing. A, X, Y, S, N, V, D, Z, C may take any value, so nothing is said of them.
Spec: R290. -/
def Obligations.ResetSequenceEffect : Prop :=
  ∀ s : State, ∃ (a x y sp : Byte) (n v d z c : Bool), s.resetSequence =
    { s with halted := false, nmiPending := false, iPrev := true, a := a, x := x, y := y, sp := sp,
             p := ⟨n, v, d, true, z, c⟩, pc := join (s.read .vectorHigh 0xFFFD) (s.read .vectorLow 0xFFFC),
             draws := s.draws + 1 }

/-- State.reset has I = 1, iPrev equal to I, halted and the NMI latch false, PC equal to the word at the RESET
vector of its memory, and meets the invariant Inv. The values chosen where the spec gives none (log 1, log 2)
are not stated.
Spec: 10_state.md section 5, 70_reset_and_hazards.md section 1. -/
def Obligations.ResetStateHoldsTheSpecsValues : Prop :=
  State.reset.p.i = true ∧ State.reset.iPrev = State.reset.p.i ∧ State.reset.halted = false ∧
  State.reset.nmiPending = false ∧ State.reset.pc = State.reset.readVector 0xFFFC ∧ Inv State.reset

/-- From a halted state whose schedule never asserts the reset line, every run of any length answers a next state
that is still halted with the same A, X, Y, S, PC, memory, interrupt latch, and the same flags but V (which the
set-overflow pin may set). That a halted step answers the same state, PC included (R236 leaves PC unspecified
once, when JAM runs), and that V may still change, is the model's reading, log 12 (DEDUCED).
Spec: 49_undocumented.md section 5, 60_exceptions.md section 5. -/
def Obligations.HaltedRunsChangeNothing : Prop :=
  ∀ (k : Nat) (s : State), s.halted = true → s.resetLine = false →
    (∀ e ∈ s.env, EnvEvent.resetLine true ∉ e.before) →
    ∃ t, Sys2Proof.core.run k s = .next t ∧ t.halted = true ∧ t.a = s.a ∧ t.x = s.x ∧ t.y = s.y ∧ t.sp = s.sp ∧
      t.pc = s.pc ∧ t.mem = s.mem ∧ t.nmiPending = s.nmiPending ∧ t.p = { s.p with v := t.p.v } ∧
      t.draws = s.draws

/-- BRK (brk, opcode 00) pushes pc0 + 2, high byte first, then the P image with bit 4 = 1 and I as it was; sets I;
loads PC from 0xFFFE/0xFFFF. It holds where the environment signals nothing during it, or an IRQ while I = 1
(how a schedule signals an interrupt during BRK is log 13).
Spec: 45_control.md R170. -/
def Obligations.BrkEntersTheIrqVector : Prop :=
  IsRow .brk 0x00 .implied (.fixed 7) ∧
  ∀ s : State, (s.during = none ∨ s.during = some .irq ∧ s.p.i = true) →
    exec .brk s = .next (s.interruptSequence (s.pc + 2) 0xFFFE true)

/-- An NMI signalled during a BRK: the latch is cleared and the NMI vector is taken with return address pc0 + 2 and
some bit 4. An IRQ signalled during it while I was 0: the IRQ vector, the same return address, some bit 4. The
bit is a free value: nothing is said of it. How the schedule chooses the collision is log 13.
Spec: R271. -/
def Obligations.BrkCollidesWithAnInterrupt : Prop :=
  ∀ s : State,
    (s.during = some .nmi → ∃ b,
      exec .brk s = .next ({ s with nmiPending := false }.interruptSequence (s.pc + 2) 0xFFFA b)) ∧
    (s.during = some .irq → s.p.i = false → ∃ b,
      exec .brk s = .next (s.interruptSequence (s.pc + 2) 0xFFFE b))

/-- RTI (rti, opcode 40): the six flags from bits 7 6 3 2 1 0 of the first byte pulled (bits 5 and 4 ignored), PC
from the second (low) and third (high), S plus 3 modulo 256; nothing else changes. The pulled I counts at once
(iPrev is the new I).
Spec: R173. -/
def Obligations.RtiRestoresStatusAndPc : Prop :=
  IsRow .rti 0x40 .implied (.fixed 6) ∧
  ∀ s : State, let v := s.read .pull1 (stackAddr (s.sp + 1))
    exec .rti s = .next { s with
      p := ⟨v.getLsbD 7, v.getLsbD 6, v.getLsbD 3, v.getLsbD 2, v.getLsbD 1, v.getLsbD 0⟩
      pc := join (s.read .pull3 (stackAddr (s.sp + 3))) (s.read .pull2 (stackAddr (s.sp + 2)))
      sp := s.sp + 3, iPrev := v.getLsbD 2, draws := s.draws + 1 }

/-- With the stack page in RAM and memory in canonical form: RTI executed in the state an interrupt sequence leaves
(any return address, vector and b) answers a state with PC the return address, P as before the interrupt (I
included), and A, X, Y, S as before.
Spec: 60_exceptions.md section 4. -/
def Obligations.InterruptThenRtiResumes : Prop :=
  ∀ (s : State) (ret vector : Addr) (b : Bool), StackIsRam s.plat → Memory.wf s.mem = true →
    ∃ t, exec .rti (s.interruptSequence ret vector b) = .next t ∧
      t.pc = ret ∧ t.p = s.p ∧ t.iPrev = s.p.i ∧ t.a = s.a ∧ t.x = s.x ∧ t.y = s.y ∧ t.sp = s.sp

/-- JSR (jsrAbs, opcode 20) stores the high and the low byte of pc0 + 2 at 0x0100+S and 0x0100+S-1 (modulo 256 in
the page) and nowhere else, S minus 2, PC the operand word. RTS (rts, opcode 60) sets PC to the pulled word plus
1 modulo 65536, S plus 2. Neither changes a flag or another register.
Spec: R172, R174. -/
def Obligations.JsrAndRtsEffects : Prop :=
  (∀ (b1 b2 : Byte) (s : State), IsRow (.jsrAbs b1 b2) 0x20 (.memory (.abs b1 b2)) (.fixed 6) ∧
    ∃ t, exec (.jsrAbs b1 b2) s = .next t ∧
      StoresExactly s t [(stackAddr s.sp, hi (s.pc + 2)), (stackAddr (s.sp - 1), lo (s.pc + 2))] ∧
      t = { s with mem := t.mem, sp := s.sp - 2, pc := join b2 b1, iPrev := s.p.i, draws := s.draws + 1 }) ∧
  IsRow .rts 0x60 .implied (.fixed 6) ∧
  ∀ s : State, exec .rts s = .next { s with
    pc := join (s.read .pull2 (stackAddr (s.sp + 2))) (s.read .pull1 (stackAddr (s.sp + 1))) + 1
    sp := s.sp + 2, iPrev := s.p.i, draws := s.draws + 1 }

/-- With the stack page in RAM and memory in canonical form: RTS executed in the state JSR leaves answers a state
with PC = pc0 + 3 and A, X, Y, S, P as before the JSR.
Spec: 45_control.md R172, R174. -/
def Obligations.RtsReturnsAfterJsr : Prop :=
  ∀ (b1 b2 : Byte) (s : State), StackIsRam s.plat → Memory.wf s.mem = true →
    ∃ t u, exec (.jsrAbs b1 b2) s = .next t ∧ t.pc = join b2 b1 ∧ exec .rts t = .next u ∧
      u.pc = s.pc + 3 ∧ u.sp = s.sp ∧ u.p = s.p ∧ u.a = s.a ∧ u.x = s.x ∧ u.y = s.y

/-- JMP a16 (jmpAbs, 4C) sets PC to the operand word. JMP (a16) (jmpInd, 6C) sets PC to the word at the pointer;
where the pointer's low byte is FF the high byte comes from the start of the same page. Nothing else changes.
Spec: R171, R294. -/
def Obligations.JumpsWriteOnlyPc : Prop :=
  ∀ (b1 b2 : Byte) (s : State),
    IsRow (.jmpAbs b1 b2) 0x4C (.memory (.abs b1 b2)) (.fixed 3) ∧ IsRow (.jmpInd b1 b2) 0x6C (.indirect b1 b2) (.fixed 5) ∧
    exec (.jmpAbs b1 b2) s = .next { s with pc := join b2 b1, iPrev := s.p.i, draws := s.draws + 1 } ∧
    exec (.jmpInd b1 b2) s = .next { s with
      pc := join (s.read .pointerHigh (if b1 = 0xFF then join b2 0x00 else join b2 b1 + 1))
                 (s.read .pointerLow (join b2 b1))
      iPrev := s.p.i, draws := s.draws + 1 }

/-- bcc, bcs, beq, bmi, bne, bpl, bvc, bvs: PC becomes pc0 + 2 plus the signed offset modulo 65536 if the flag has
the value the row names, else pc0 + 2; no flag, no register, no memory changes.
Spec: R150, R151, R152, R153, R154, R155, R156, R157, R158. -/
def Obligations.BranchesTestOneFlag : Prop :=
  ∀ (b1 : Byte) (s : State),
    ∀ f ∈ ([
        (.bcc b1, 0x90, !s.p.c),
        (.bcs b1, 0xB0, s.p.c),
        (.beq b1, 0xF0, s.p.z),
        (.bmi b1, 0x30, s.p.n),
        (.bne b1, 0xD0, !s.p.z),
        (.bpl b1, 0x10, !s.p.n),
        (.bvc b1, 0x50, !s.p.v),
        (.bvs b1, 0x70, s.p.v)] : List (Instr × Byte × Bool)),
      IsRow f.1 f.2.1 (.relative b1) .branch ∧
      exec f.1 s = .next { s with
        pc := if f.2.2 then BitVec.ofInt 16 (s.pc.toNat + 2 + b1.toInt) else BitVec.ofNat 16 (s.pc.toNat + 2)
        iPrev := s.p.i, draws := s.draws + 1 }

/-- clc, cld, cli, clv, sec, sed, sei, nop: the one flag takes its constant, PC advances by 1, all else is
unchanged. iPrev is the value I had before the instruction in all eight (after CLI and SEI it may differ from
the new I).
Spec: R180, R181, R182, R183, R184, R185, R186, R187. -/
def Obligations.FlagInstructionsWriteOneFlag : Prop :=
  ∀ s : State,
    ∀ f ∈ ([
        (.clc, 0x18, { s.p with c := false }),
        (.cld, 0xD8, { s.p with d := false }),
        (.cli, 0x58, { s.p with i := false }),
        (.clv, 0xB8, { s.p with v := false }),
        (.sec, 0x38, { s.p with c := true }),
        (.sed, 0xF8, { s.p with d := true }),
        (.sei, 0x78, { s.p with i := true }),
        (.nop, 0xEA, s.p)] : List (Instr × Byte × Status)),
      IsRow f.1 f.2.1 .implied (.fixed 2) ∧
      exec f.1 s = .next { s with p := f.2.2, pc := s.pc + 1, iPrev := s.p.i, draws := s.draws + 1 }

/-- inx, iny, dex, dey: the register plus or minus 1 modulo 256, N and Z from the result, PC plus 1, everything else
unchanged (C, V, D, I among it).
Spec: R191, R192, R194, R195. -/
def Obligations.RegisterStepsWrapModulo256 : Prop :=
  ∀ s : State,
    let nz := fun r : Byte => { s.p with n := r.getLsbD 7, z := decide (r = 0) }
    IsRow .inx 0xE8 .implied (.fixed 2) ∧ IsRow .iny 0xC8 .implied (.fixed 2) ∧
    IsRow .dex 0xCA .implied (.fixed 2) ∧ IsRow .dey 0x88 .implied (.fixed 2) ∧
    (∃ r : Byte, r.toNat = (s.x.toNat + 1) % 256 ∧ exec .inx s = .next ({ s with x := r, p := nz r }.retire 1)) ∧
    (∃ r : Byte, r.toNat = (s.y.toNat + 1) % 256 ∧ exec .iny s = .next ({ s with y := r, p := nz r }.retire 1)) ∧
    (∃ r : Byte, r.toNat = (s.x.toNat + 255) % 256 ∧ exec .dex s = .next ({ s with x := r, p := nz r }.retire 1)) ∧
    (∃ r : Byte, r.toNat = (s.y.toNat + 255) % 256 ∧ exec .dey s = .next ({ s with y := r, p := nz r }.retire 1))

/-- INC (incZp, incAbs, incZpX, incAbsX) and DEC (decZp, decAbs, decZpX, decAbsX): the byte at the effective address
plus or minus 1 modulo 256 is stored there and nowhere else; N and Z from it; no register, no other flag
changes. Where the mode is a16,X the access must not be one that D16 refuses.
Spec: R190, R193. -/
def Obligations.MemoryStepsWrapModulo256 : Prop :=
  ∀ (b1 b2 : Byte) (s : State),
    ∀ f ∈ ([
        (⟨.decZp b1, 0xC6, .zp b1, .fixed 5⟩, 255),
        (⟨.decAbs b1 b2, 0xCE, .abs b1 b2, .fixed 6⟩, 255),
        (⟨.decZpX b1, 0xD6, .zpX b1, .fixed 6⟩, 255),
        (⟨.decAbsX b1 b2, 0xDE, .absX b1 b2, .fixed 7⟩, 255),
        (⟨.incZp b1, 0xE6, .zp b1, .fixed 5⟩, 1),
        (⟨.incAbs b1 b2, 0xEE, .abs b1 b2, .fixed 6⟩, 1),
        (⟨.incZpX b1, 0xF6, .zpX b1, .fixed 6⟩, 1),
        (⟨.incAbsX b1 b2, 0xFE, .absX b1 b2, .fixed 7⟩, 1)] : List (MemRow × Nat)),
      f.1.Correct ∧ (discardedReadBlocked .readModifyWrite f.1.mode s = false →
        let v := s.read .data (effAddr f.1.mode s)
        ∃ (r : Byte) (t : State), r.toNat = (v.toNat + f.2) % 256 ∧ exec f.1.instr s = .next t ∧
          StoresExactly s t [(effAddr f.1.mode s, r)] ∧
          t = { s with mem := t.mem, p := { s.p with n := r.getLsbD 7, z := decide (r = 0) } }.retire f.1.mode.length)

/-- ASL (aslZp, aslA, aslAbs, aslZpX, aslAbsX) and LSR (lsrZp, lsrA, lsrAbs, lsrZpX, lsrAbsX): the result is twice
the operand modulo 256, or half of it; C is bit 7 or bit 0 of the operand, N is bit 7 of the result (0 for LSR),
Z its zero test; in mode A only A, in a memory mode only the byte at the effective address is written.
Spec: R141, R142. -/
def Obligations.ShiftsAslAndLsr : Prop :=
  ∀ (b1 b2 : Byte) (s : State),
    (IsRow .aslA 0x0A .accumulator (.fixed 2) ∧ ∃ r : Byte, r.toNat = 2 * s.a.toNat % 256 ∧
      exec .aslA s = .next ({ s with a := r, p := { s.p with n := r.getLsbD 7, z := decide (r = 0), c := s.a.getLsbD 7 } }.retire 1)) ∧
    (IsRow .lsrA 0x4A .accumulator (.fixed 2) ∧ ∃ r : Byte, r.toNat = s.a.toNat / 2 ∧
      exec .lsrA s = .next ({ s with a := r, p := { s.p with n := false, z := decide (r = 0), c := s.a.getLsbD 0 } }.retire 1)) ∧
    (∀ f ∈ ([
        ⟨.aslZp b1, 0x06, .zp b1, .fixed 5⟩,
        ⟨.aslAbs b1 b2, 0x0E, .abs b1 b2, .fixed 6⟩,
        ⟨.aslZpX b1, 0x16, .zpX b1, .fixed 6⟩,
        ⟨.aslAbsX b1 b2, 0x1E, .absX b1 b2, .fixed 7⟩] : List MemRow),
      f.Correct ∧ (discardedReadBlocked .readModifyWrite f.mode s = false →
        let v := s.read .data (effAddr f.mode s)
        ∃ (r : Byte) (t : State), r.toNat = 2 * v.toNat % 256 ∧ exec f.instr s = .next t ∧ StoresExactly s t [(effAddr f.mode s, r)] ∧
          t = { s with mem := t.mem, p := { s.p with n := r.getLsbD 7, z := decide (r = 0), c := v.getLsbD 7 } }.retire
            f.mode.length)) ∧
    (∀ f ∈ ([
        ⟨.lsrZp b1, 0x46, .zp b1, .fixed 5⟩,
        ⟨.lsrAbs b1 b2, 0x4E, .abs b1 b2, .fixed 6⟩,
        ⟨.lsrZpX b1, 0x56, .zpX b1, .fixed 6⟩,
        ⟨.lsrAbsX b1 b2, 0x5E, .absX b1 b2, .fixed 7⟩] : List MemRow),
      f.Correct ∧ (discardedReadBlocked .readModifyWrite f.mode s = false →
        let v := s.read .data (effAddr f.mode s)
        ∃ (r : Byte) (t : State), r.toNat = v.toNat / 2 ∧ exec f.instr s = .next t ∧ StoresExactly s t [(effAddr f.mode s, r)] ∧
          t = { s with mem := t.mem, p := { s.p with n := false, z := decide (r = 0), c := v.getLsbD 0 } }.retire
            f.mode.length))

/-- ROL (rolZp, rolA, rolAbs, rolZpX, rolAbsX) and ROR (rorZp, rorA, rorAbs, rorZpX, rorAbsX): the input carry
enters bit 0 or bit 7, C is the bit rotated out, N is bit 7 of the result (for ROR the input carry), Z its zero
test; in mode A only A, in a memory mode only the byte at the effective address is written.
Spec: R143, R144. -/
def Obligations.RotatesRolAndRor : Prop :=
  ∀ (b1 b2 : Byte) (s : State),
    (IsRow .rolA 0x2A .accumulator (.fixed 2) ∧ ∃ r : Byte, r.toNat = 2 * s.a.toNat % 256 + bitVal s.p.c ∧
      exec .rolA s = .next ({ s with a := r, p := { s.p with n := r.getLsbD 7, z := decide (r = 0), c := s.a.getLsbD 7 } }.retire 1)) ∧
    (IsRow .rorA 0x6A .accumulator (.fixed 2) ∧ ∃ r : Byte, r.toNat = s.a.toNat / 2 + 128 * bitVal s.p.c ∧
      exec .rorA s = .next ({ s with a := r, p := { s.p with n := s.p.c, z := decide (r = 0), c := s.a.getLsbD 0 } }.retire 1)) ∧
    (∀ f ∈ ([
        ⟨.rolZp b1, 0x26, .zp b1, .fixed 5⟩,
        ⟨.rolAbs b1 b2, 0x2E, .abs b1 b2, .fixed 6⟩,
        ⟨.rolZpX b1, 0x36, .zpX b1, .fixed 6⟩,
        ⟨.rolAbsX b1 b2, 0x3E, .absX b1 b2, .fixed 7⟩] : List MemRow),
      f.Correct ∧ (discardedReadBlocked .readModifyWrite f.mode s = false →
        let v := s.read .data (effAddr f.mode s)
        ∃ (r : Byte) (t : State), r.toNat = 2 * v.toNat % 256 + bitVal s.p.c ∧ exec f.instr s = .next t ∧ StoresExactly s t [(effAddr f.mode s, r)] ∧
          t = { s with mem := t.mem, p := { s.p with n := r.getLsbD 7, z := decide (r = 0), c := v.getLsbD 7 } }.retire
            f.mode.length)) ∧
    (∀ f ∈ ([
        ⟨.rorZp b1, 0x66, .zp b1, .fixed 5⟩,
        ⟨.rorAbs b1 b2, 0x6E, .abs b1 b2, .fixed 6⟩,
        ⟨.rorZpX b1, 0x76, .zpX b1, .fixed 6⟩,
        ⟨.rorAbsX b1 b2, 0x7E, .absX b1 b2, .fixed 7⟩] : List MemRow),
      f.Correct ∧ (discardedReadBlocked .readModifyWrite f.mode s = false →
        let v := s.read .data (effAddr f.mode s)
        ∃ (r : Byte) (t : State), r.toNat = v.toNat / 2 + 128 * bitVal s.p.c ∧ exec f.instr s = .next t ∧ StoresExactly s t [(effAddr f.mode s, r)] ∧
          t = { s with mem := t.mem, p := { s.p with n := s.p.c, z := decide (r = 0), c := v.getLsbD 0 } }.retire
            f.mode.length))

/-- AND (andIndX, andZp, andImm, andAbs, andIndY, andZpX, andAbsY, andAbsX), ORA (oraIndX, oraZp, oraImm, oraAbs,
oraIndY, oraZpX, oraAbsY, oraAbsX), EOR (eorIndX, eorZp, eorImm, eorAbs, eorIndY, eorZpX, eorAbsY, eorAbsX): A
becomes A and, or, exclusive-or the operand; N is bit 7 and Z the zero test of the result; all else but PC is
unchanged.
Spec: R130, R131, R132. -/
def Obligations.LogicAndOraEor : Prop :=
  ∀ (b1 b2 : Byte) (s : State),
    ∀ f ∈ ([
        (⟨.oraIndX b1, 0x01, .memory (.indX b1), .fixed 6⟩, fun x y => x ||| y),
        (⟨.oraZp b1, 0x05, .memory (.zp b1), .fixed 3⟩, fun x y => x ||| y),
        (⟨.oraImm b1, 0x09, .immediate b1, .fixed 2⟩, fun x y => x ||| y),
        (⟨.oraAbs b1 b2, 0x0D, .memory (.abs b1 b2), .fixed 4⟩, fun x y => x ||| y),
        (⟨.oraIndY b1, 0x11, .memory (.indY b1), .paged 5⟩, fun x y => x ||| y),
        (⟨.oraZpX b1, 0x15, .memory (.zpX b1), .fixed 4⟩, fun x y => x ||| y),
        (⟨.oraAbsY b1 b2, 0x19, .memory (.absY b1 b2), .paged 4⟩, fun x y => x ||| y),
        (⟨.oraAbsX b1 b2, 0x1D, .memory (.absX b1 b2), .paged 4⟩, fun x y => x ||| y),
        (⟨.andIndX b1, 0x21, .memory (.indX b1), .fixed 6⟩, fun x y => x &&& y),
        (⟨.andZp b1, 0x25, .memory (.zp b1), .fixed 3⟩, fun x y => x &&& y),
        (⟨.andImm b1, 0x29, .immediate b1, .fixed 2⟩, fun x y => x &&& y),
        (⟨.andAbs b1 b2, 0x2D, .memory (.abs b1 b2), .fixed 4⟩, fun x y => x &&& y),
        (⟨.andIndY b1, 0x31, .memory (.indY b1), .paged 5⟩, fun x y => x &&& y),
        (⟨.andZpX b1, 0x35, .memory (.zpX b1), .fixed 4⟩, fun x y => x &&& y),
        (⟨.andAbsY b1 b2, 0x39, .memory (.absY b1 b2), .paged 4⟩, fun x y => x &&& y),
        (⟨.andAbsX b1 b2, 0x3D, .memory (.absX b1 b2), .paged 4⟩, fun x y => x &&& y),
        (⟨.eorIndX b1, 0x41, .memory (.indX b1), .fixed 6⟩, fun x y => x ^^^ y),
        (⟨.eorZp b1, 0x45, .memory (.zp b1), .fixed 3⟩, fun x y => x ^^^ y),
        (⟨.eorImm b1, 0x49, .immediate b1, .fixed 2⟩, fun x y => x ^^^ y),
        (⟨.eorAbs b1 b2, 0x4D, .memory (.abs b1 b2), .fixed 4⟩, fun x y => x ^^^ y),
        (⟨.eorIndY b1, 0x51, .memory (.indY b1), .paged 5⟩, fun x y => x ^^^ y),
        (⟨.eorZpX b1, 0x55, .memory (.zpX b1), .fixed 4⟩, fun x y => x ^^^ y),
        (⟨.eorAbsY b1 b2, 0x59, .memory (.absY b1 b2), .paged 4⟩, fun x y => x ^^^ y),
        (⟨.eorAbsX b1 b2, 0x5D, .memory (.absX b1 b2), .paged 4⟩, fun x y => x ^^^ y)] : List (ReadRow × (Byte → Byte → Byte))),
      f.1.Correct ∧ (sourceBlocked f.1.source s = false →
        let m := sourceValue f.1.source s
        let r := f.2 s.a m
        exec f.1.instr s = .next
          ({ s with a := r, p := { s.p with n := r.getLsbD 7, z := decide (r = 0) } }.retire f.1.source.length))

/-- BIT (bitZp, bitAbs): N is bit 7 and V bit 6 of the memory byte, Z says that A and the byte have no bit in
common; A, C and all else but PC are unchanged.
Spec: R133. -/
def Obligations.BitTakesNAndVFromMemory : Prop :=
  ∀ (b1 b2 : Byte) (s : State),
    ∀ f ∈ ([
        ⟨.bitZp b1, 0x24, .memory (.zp b1), .fixed 3⟩,
        ⟨.bitAbs b1 b2, 0x2C, .memory (.abs b1 b2), .fixed 4⟩] : List ReadRow),
      f.Correct ∧ (sourceBlocked f.source s = false →
        let m := sourceValue f.source s
        exec f.instr s = .next
          ({ s with p := { s.p with n := decide (128 ≤ m.toNat), v := decide (64 ≤ m.toNat % 128),
                                    z := decide (s.a &&& m = 0) } }.retire f.source.length))

/-- ADC (adcIndX, adcZp, adcImm, adcAbs, adcIndY, adcZpX, adcAbsY, adcAbsX) with D = 0: A becomes A + M + C modulo
256; C says the sum exceeds 255; V is bit 7 of (A xor r) and (M xor r), the rule's equivalent of a signed sum
outside -128 to 127; N and Z from the result; all else but PC is unchanged.
Spec: 41_arith.md R120, R123. -/
def Obligations.AdcBinary : Prop :=
  ∀ (b1 b2 : Byte) (s : State), s.p.d = false →
    ∀ f ∈ ([
        ⟨.adcIndX b1, 0x61, .memory (.indX b1), .fixed 6⟩,
        ⟨.adcZp b1, 0x65, .memory (.zp b1), .fixed 3⟩,
        ⟨.adcImm b1, 0x69, .immediate b1, .fixed 2⟩,
        ⟨.adcAbs b1 b2, 0x6D, .memory (.abs b1 b2), .fixed 4⟩,
        ⟨.adcIndY b1, 0x71, .memory (.indY b1), .paged 5⟩,
        ⟨.adcZpX b1, 0x75, .memory (.zpX b1), .fixed 4⟩,
        ⟨.adcAbsY b1 b2, 0x79, .memory (.absY b1 b2), .paged 4⟩,
        ⟨.adcAbsX b1 b2, 0x7D, .memory (.absX b1 b2), .paged 4⟩] : List ReadRow),
      f.Correct ∧ (sourceBlocked f.source s = false →
        let m := sourceValue f.source s
        ∃ r : Byte, r.toNat = (s.a.toNat + m.toNat + bitVal s.p.c) % 256 ∧
          exec f.instr s = .next
            ({ s with a := r, p := { s.p with n := r.getLsbD 7, v := ((s.a ^^^ r) &&& (m ^^^ r)).getLsbD 7, z := decide (r = 0),
                                              c := decide (255 < s.a.toNat + m.toNat + bitVal s.p.c) } }.retire f.source.length))

/-- SBC (sbcIndX, sbcZp, sbcImm, sbcAbs, sbcIndY, sbcZpX, sbcAbsY, sbcAbsX) and *SBC (sbcImmEB, opcode EB) with D =
0: A becomes A - M - (1 - C) modulo 256; C says no borrow occurred; V is bit 7 of (A xor M) and (A xor r); N and
Z from the result; all else but PC is unchanged.
Spec: 41_arith.md R120, R124, 49_undocumented.md R243. -/
def Obligations.SbcBinary : Prop :=
  ∀ (b1 b2 : Byte) (s : State), s.p.d = false →
    ∀ f ∈ ([
        ⟨.sbcIndX b1, 0xE1, .memory (.indX b1), .fixed 6⟩,
        ⟨.sbcZp b1, 0xE5, .memory (.zp b1), .fixed 3⟩,
        ⟨.sbcImm b1, 0xE9, .immediate b1, .fixed 2⟩,
        ⟨.sbcImmEB b1, 0xEB, .immediate b1, .fixed 2⟩,
        ⟨.sbcAbs b1 b2, 0xED, .memory (.abs b1 b2), .fixed 4⟩,
        ⟨.sbcIndY b1, 0xF1, .memory (.indY b1), .paged 5⟩,
        ⟨.sbcZpX b1, 0xF5, .memory (.zpX b1), .fixed 4⟩,
        ⟨.sbcAbsY b1 b2, 0xF9, .memory (.absY b1 b2), .paged 4⟩,
        ⟨.sbcAbsX b1 b2, 0xFD, .memory (.absX b1 b2), .paged 4⟩] : List ReadRow),
      f.Correct ∧ (sourceBlocked f.source s = false →
        let m := sourceValue f.source s
        ∃ r : Byte, r.toNat = (256 + s.a.toNat - m.toNat - (1 - bitVal s.p.c)) % 256 ∧
          exec f.instr s = .next
            ({ s with a := r, p := { s.p with n := r.getLsbD 7, v := ((s.a ^^^ m) &&& (s.a ^^^ r)).getLsbD 7, z := decide (r = 0),
                                              c := decide (m.toNat + (1 - bitVal s.p.c) ≤ s.a.toNat) } }.retire f.source.length))

/-- ADC (adcIndX, adcZp, adcImm, adcAbs, adcIndY, adcZpX, adcAbsY, adcAbsX) with D = 1: for operands that are valid
packed BCD, A is the BCD of the decimal sum modulo 100 and C says the sum exceeds 99. N, V, Z, and A and C for
other operands, are outputs of the parameter DecimalALU: nothing is said of them. All else but PC is unchanged,
for all operands.
Spec: 41_arith.md R121, R123. -/
def Obligations.AdcDecimal : Prop :=
  ∀ (b1 b2 : Byte) (s : State), s.p.d = true →
    ∀ f ∈ ([
        ⟨.adcIndX b1, 0x61, .memory (.indX b1), .fixed 6⟩,
        ⟨.adcZp b1, 0x65, .memory (.zp b1), .fixed 3⟩,
        ⟨.adcImm b1, 0x69, .immediate b1, .fixed 2⟩,
        ⟨.adcAbs b1 b2, 0x6D, .memory (.abs b1 b2), .fixed 4⟩,
        ⟨.adcIndY b1, 0x71, .memory (.indY b1), .paged 5⟩,
        ⟨.adcZpX b1, 0x75, .memory (.zpX b1), .fixed 4⟩,
        ⟨.adcAbsY b1 b2, 0x79, .memory (.absY b1 b2), .paged 4⟩,
        ⟨.adcAbsX b1 b2, 0x7D, .memory (.absX b1 b2), .paged 4⟩] : List ReadRow),
      f.Correct ∧ (sourceBlocked f.source s = false →
        let m := sourceValue f.source s
        ∃ t, exec f.instr s = .next t ∧
          (validBcd s.a = true → validBcd m = true →
            validBcd t.a = true ∧ (bcdValue t.a : Int) = ((bcdValue s.a + bcdValue m + bitVal s.p.c) % 100 : Nat) ∧ t.p.c = decide (99 < bcdValue s.a + bcdValue m + bitVal s.p.c)) ∧
          ∃ n v z c, t = { s with a := t.a, p := { s.p with n := n, v := v, z := z, c := c } }.retire f.source.length)

/-- SBC (sbcIndX, sbcZp, sbcImm, sbcAbs, sbcIndY, sbcZpX, sbcAbsY, sbcAbsX) and *SBC (sbcImmEB) with D = 1: for
valid packed BCD operands, A is the BCD of the decimal difference modulo 100 and C says no borrow occurred. N,
V, Z, and A and C for other operands, are outputs of the parameter DecimalALU. All else but PC is unchanged.
Spec: 41_arith.md R121, R124, 49_undocumented.md R243. -/
def Obligations.SbcDecimal : Prop :=
  ∀ (b1 b2 : Byte) (s : State), s.p.d = true →
    ∀ f ∈ ([
        ⟨.sbcIndX b1, 0xE1, .memory (.indX b1), .fixed 6⟩,
        ⟨.sbcZp b1, 0xE5, .memory (.zp b1), .fixed 3⟩,
        ⟨.sbcImm b1, 0xE9, .immediate b1, .fixed 2⟩,
        ⟨.sbcImmEB b1, 0xEB, .immediate b1, .fixed 2⟩,
        ⟨.sbcAbs b1 b2, 0xED, .memory (.abs b1 b2), .fixed 4⟩,
        ⟨.sbcIndY b1, 0xF1, .memory (.indY b1), .paged 5⟩,
        ⟨.sbcZpX b1, 0xF5, .memory (.zpX b1), .fixed 4⟩,
        ⟨.sbcAbsY b1 b2, 0xF9, .memory (.absY b1 b2), .paged 4⟩,
        ⟨.sbcAbsX b1 b2, 0xFD, .memory (.absX b1 b2), .paged 4⟩] : List ReadRow),
      f.Correct ∧ (sourceBlocked f.source s = false →
        let m := sourceValue f.source s
        ∃ t, exec f.instr s = .next t ∧
          (validBcd s.a = true → validBcd m = true →
            validBcd t.a = true ∧ (bcdValue t.a : Int) = ((bcdValue s.a : Int) - bcdValue m - (1 - bitVal s.p.c : Int)) % 100 ∧ t.p.c = decide (bcdValue m + (1 - bitVal s.p.c) ≤ bcdValue s.a)) ∧
          ∃ n v z c, t = { s with a := t.a, p := { s.p with n := n, v := v, z := z, c := c } }.retire f.source.length)

/-- CMP (cmpIndX, cmpZp, cmpImm, cmpAbs, cmpIndY, cmpZpX, cmpAbsY, cmpAbsX), CPX (cpxImm, cpxZp, cpxAbs), CPY
(cpyImm, cpyZp, cpyAbs): C says register >= operand as unsigned bytes, Z says they are equal, N is bit 7 of the
8-bit difference; no register, no other flag changes, and D has no effect.
Spec: R125, R126, R127. -/
def Obligations.ComparesAreUnsigned : Prop :=
  ∀ (b1 b2 : Byte) (s : State),
    ∀ f ∈ ([
        (⟨.cpyImm b1, 0xC0, .immediate b1, .fixed 2⟩, s.y),
        (⟨.cmpIndX b1, 0xC1, .memory (.indX b1), .fixed 6⟩, s.a),
        (⟨.cpyZp b1, 0xC4, .memory (.zp b1), .fixed 3⟩, s.y),
        (⟨.cmpZp b1, 0xC5, .memory (.zp b1), .fixed 3⟩, s.a),
        (⟨.cmpImm b1, 0xC9, .immediate b1, .fixed 2⟩, s.a),
        (⟨.cpyAbs b1 b2, 0xCC, .memory (.abs b1 b2), .fixed 4⟩, s.y),
        (⟨.cmpAbs b1 b2, 0xCD, .memory (.abs b1 b2), .fixed 4⟩, s.a),
        (⟨.cmpIndY b1, 0xD1, .memory (.indY b1), .paged 5⟩, s.a),
        (⟨.cmpZpX b1, 0xD5, .memory (.zpX b1), .fixed 4⟩, s.a),
        (⟨.cmpAbsY b1 b2, 0xD9, .memory (.absY b1 b2), .paged 4⟩, s.a),
        (⟨.cmpAbsX b1 b2, 0xDD, .memory (.absX b1 b2), .paged 4⟩, s.a),
        (⟨.cpxImm b1, 0xE0, .immediate b1, .fixed 2⟩, s.x),
        (⟨.cpxZp b1, 0xE4, .memory (.zp b1), .fixed 3⟩, s.x),
        (⟨.cpxAbs b1 b2, 0xEC, .memory (.abs b1 b2), .fixed 4⟩, s.x)] : List (ReadRow × Byte)),
      f.1.Correct ∧ (sourceBlocked f.1.source s = false →
        let m := sourceValue f.1.source s
        exec f.1.instr s = .next
          ({ s with p := { s.p with n := decide (128 ≤ (256 + f.2.toNat - m.toNat) % 256), z := decide (f.2 = m),
                                    c := decide (m.toNat ≤ f.2.toNat) } }.retire f.1.source.length))

/-- LDA (ldaIndX, ldaZp, ldaImm, ldaAbs, ldaIndY, ldaZpX, ldaAbsY, ldaAbsX), LDX (ldxImm, ldxZp, ldxAbs, ldxZpY,
ldxAbsY), LDY (ldyImm, ldyZp, ldyAbs, ldyZpX, ldyAbsX): the register takes the operand byte, N is its bit 7 and
Z its zero test; no other register, no other flag, no memory changes.
Spec: R200, R201, R202. -/
def Obligations.LoadsSetNAndZ : Prop :=
  ∀ (b1 b2 : Byte) (s : State),
    ∀ f ∈ ([
        (⟨.ldyImm b1, 0xA0, .immediate b1, .fixed 2⟩, { s with y := sourceValue (.immediate b1) s }),
        (⟨.ldaIndX b1, 0xA1, .memory (.indX b1), .fixed 6⟩, { s with a := sourceValue (.memory (.indX b1)) s }),
        (⟨.ldxImm b1, 0xA2, .immediate b1, .fixed 2⟩, { s with x := sourceValue (.immediate b1) s }),
        (⟨.ldyZp b1, 0xA4, .memory (.zp b1), .fixed 3⟩, { s with y := sourceValue (.memory (.zp b1)) s }),
        (⟨.ldaZp b1, 0xA5, .memory (.zp b1), .fixed 3⟩, { s with a := sourceValue (.memory (.zp b1)) s }),
        (⟨.ldxZp b1, 0xA6, .memory (.zp b1), .fixed 3⟩, { s with x := sourceValue (.memory (.zp b1)) s }),
        (⟨.ldaImm b1, 0xA9, .immediate b1, .fixed 2⟩, { s with a := sourceValue (.immediate b1) s }),
        (⟨.ldyAbs b1 b2, 0xAC, .memory (.abs b1 b2), .fixed 4⟩, { s with y := sourceValue (.memory (.abs b1 b2)) s }),
        (⟨.ldaAbs b1 b2, 0xAD, .memory (.abs b1 b2), .fixed 4⟩, { s with a := sourceValue (.memory (.abs b1 b2)) s }),
        (⟨.ldxAbs b1 b2, 0xAE, .memory (.abs b1 b2), .fixed 4⟩, { s with x := sourceValue (.memory (.abs b1 b2)) s }),
        (⟨.ldaIndY b1, 0xB1, .memory (.indY b1), .paged 5⟩, { s with a := sourceValue (.memory (.indY b1)) s }),
        (⟨.ldyZpX b1, 0xB4, .memory (.zpX b1), .fixed 4⟩, { s with y := sourceValue (.memory (.zpX b1)) s }),
        (⟨.ldaZpX b1, 0xB5, .memory (.zpX b1), .fixed 4⟩, { s with a := sourceValue (.memory (.zpX b1)) s }),
        (⟨.ldxZpY b1, 0xB6, .memory (.zpY b1), .fixed 4⟩, { s with x := sourceValue (.memory (.zpY b1)) s }),
        (⟨.ldaAbsY b1 b2, 0xB9, .memory (.absY b1 b2), .paged 4⟩, { s with a := sourceValue (.memory (.absY b1 b2)) s }),
        (⟨.ldyAbsX b1 b2, 0xBC, .memory (.absX b1 b2), .paged 4⟩, { s with y := sourceValue (.memory (.absX b1 b2)) s }),
        (⟨.ldaAbsX b1 b2, 0xBD, .memory (.absX b1 b2), .paged 4⟩, { s with a := sourceValue (.memory (.absX b1 b2)) s }),
        (⟨.ldxAbsY b1 b2, 0xBE, .memory (.absY b1 b2), .paged 4⟩, { s with x := sourceValue (.memory (.absY b1 b2)) s })] : List (ReadRow × State)),
      f.1.Correct ∧ (sourceBlocked f.1.source s = false →
        let m := sourceValue f.1.source s
        exec f.1.instr s = .next
          ({ f.2 with p := { s.p with n := m.getLsbD 7, z := decide (m = 0) } }.retire f.1.source.length))

/-- STA (staIndX, staZp, staAbs, staIndY, staZpX, staAbsY, staAbsX), STX (stxZp, stxAbs, stxZpY), STY (styZp,
styAbs, styZpX), SAX (saxIndX, saxZp, saxAbs, saxZpY): A, X, Y, or A and X, is stored at the effective address
and nowhere else; no register but PC and no flag changes.
Spec: R203, R204, R205, R242. -/
def Obligations.StoresWriteOneByte : Prop :=
  ∀ (b1 b2 : Byte) (s : State),
    ∀ f ∈ ([
        (⟨.staIndX b1, 0x81, .indX b1, .fixed 6⟩, s.a),
        (⟨.saxIndX b1, 0x83, .indX b1, .fixed 6⟩, s.a &&& s.x),
        (⟨.styZp b1, 0x84, .zp b1, .fixed 3⟩, s.y),
        (⟨.staZp b1, 0x85, .zp b1, .fixed 3⟩, s.a),
        (⟨.stxZp b1, 0x86, .zp b1, .fixed 3⟩, s.x),
        (⟨.saxZp b1, 0x87, .zp b1, .fixed 3⟩, s.a &&& s.x),
        (⟨.styAbs b1 b2, 0x8C, .abs b1 b2, .fixed 4⟩, s.y),
        (⟨.staAbs b1 b2, 0x8D, .abs b1 b2, .fixed 4⟩, s.a),
        (⟨.stxAbs b1 b2, 0x8E, .abs b1 b2, .fixed 4⟩, s.x),
        (⟨.saxAbs b1 b2, 0x8F, .abs b1 b2, .fixed 4⟩, s.a &&& s.x),
        (⟨.staIndY b1, 0x91, .indY b1, .fixed 6⟩, s.a),
        (⟨.styZpX b1, 0x94, .zpX b1, .fixed 4⟩, s.y),
        (⟨.staZpX b1, 0x95, .zpX b1, .fixed 4⟩, s.a),
        (⟨.stxZpY b1, 0x96, .zpY b1, .fixed 4⟩, s.x),
        (⟨.saxZpY b1, 0x97, .zpY b1, .fixed 4⟩, s.a &&& s.x),
        (⟨.staAbsY b1 b2, 0x99, .absY b1 b2, .fixed 5⟩, s.a),
        (⟨.staAbsX b1 b2, 0x9D, .absX b1 b2, .fixed 5⟩, s.a)] : List (MemRow × Byte)),
      f.1.Correct ∧ (discardedReadBlocked .write f.1.mode s = false →
        ∃ t, exec f.1.instr s = .next t ∧ StoresExactly s t [(effAddr f.1.mode s, f.2)] ∧
          t = { s with mem := t.mem }.retire f.1.mode.length)

/-- pha (48) and php (08): the byte is stored at 0x0100 + S and nowhere else, S decreases by 1 modulo 256, no flag
and no other register but PC changes. PHP's byte has N V at bits 7 6, ones at 5 and 4, D I Z C at bits 3 to 0.
Spec: R206, R207. -/
def Obligations.PushesPhaAndPhp : Prop :=
  ∀ s : State, IsRow .pha 0x48 .implied (.fixed 3) ∧ IsRow .php 0x08 .implied (.fixed 3) ∧
    (∃ t, exec .pha s = .next t ∧ StoresExactly s t [(stackAddr s.sp, s.a)] ∧
      t = { s with mem := t.mem, sp := s.sp - 1 }.retire 1) ∧
    (∃ t, exec .php s = .next t ∧
      StoresExactly s t [(stackAddr s.sp, BitVec.ofNat 8 (128 * bitVal s.p.n + 64 * bitVal s.p.v + 48 +
        8 * bitVal s.p.d + 4 * bitVal s.p.i + 2 * bitVal s.p.z + bitVal s.p.c))] ∧
      t = { s with mem := t.mem, sp := s.sp - 1 }.retire 1)

/-- pla (68) and plp (28): S increases by 1 modulo 256 and the byte is read at 0x0100 + the new S. PLA writes A, N,
Z. PLP writes the six flags from bits 7 6 3 2 1 0, and iPrev keeps the I from before it (the boundary right
after PLP may use either). Nothing else but PC changes.
Spec: R208, R209. -/
def Obligations.PullsPlaAndPlp : Prop :=
  ∀ s : State, IsRow .pla 0x68 .implied (.fixed 4) ∧ IsRow .plp 0x28 .implied (.fixed 4) ∧
    let v := s.read .pull1 (stackAddr (s.sp + 1))
    exec .pla s = .next
      ({ s with a := v, sp := s.sp + 1, p := { s.p with n := v.getLsbD 7, z := decide (v = 0) } }.retire 1) ∧
    exec .plp s = .next
      { s with p := ⟨v.getLsbD 7, v.getLsbD 6, v.getLsbD 3, v.getLsbD 2, v.getLsbD 1, v.getLsbD 0⟩, sp := s.sp + 1,
               pc := s.pc + 1, iPrev := s.p.i, draws := s.draws + 1 }

/-- tax, tay, tsx, txa, tya: the destination takes the source, N and Z are those of the value moved. txs: S takes X
and no flag changes. The source and all else but PC are unchanged.
Spec: R210, R211, R212, R213, R214, R215. -/
def Obligations.TransfersMoveOneRegister : Prop :=
  ∀ s : State,
    (∀ f ∈ ([
        (.tax, 0xAA, { s with x := s.a }, s.a),
        (.tay, 0xA8, { s with y := s.a }, s.a),
        (.tsx, 0xBA, { s with x := s.sp }, s.sp),
        (.txa, 0x8A, { s with a := s.x }, s.x),
        (.tya, 0x98, { s with a := s.y }, s.y)] : List (Instr × Byte × State × Byte)),
      IsRow f.1 f.2.1 .implied (.fixed 2) ∧
      exec f.1 s = .next ({ f.2.2.1 with
        p := { s.p with n := f.2.2.2.getLsbD 7, z := decide (f.2.2.2 = 0) } }.retire 1)) ∧
    IsRow .txs 0x9A .implied (.fixed 2) ∧ exec .txs s = .next ({ s with sp := s.x }.retire 1)

/-- SLO (sloIndX, sloZp, sloAbs, sloIndY, sloZpX, sloAbsY, sloAbsX), RLA (rlaIndX, rlaZp, rlaAbs, rlaIndY, rlaZpX,
rlaAbsY, rlaAbsX), SRE (sreIndX, sreZp, sreAbs, sreIndY, sreZpX, sreAbsY, sreAbsX): the shifted or rotated byte
is stored at the effective address and nowhere else, C is the bit shifted out, A is combined with the byte
stored, N and Z are those of A; all else but PC is unchanged.
Spec: R249, R240, R250. -/
def Obligations.SloRlaSreShiftThenCombine : Prop :=
  ∀ (b1 b2 : Byte) (s : State),
    (∀ f ∈ ([
        ⟨.sloIndX b1, 0x03, .indX b1, .fixed 8⟩,
        ⟨.sloZp b1, 0x07, .zp b1, .fixed 5⟩,
        ⟨.sloAbs b1 b2, 0x0F, .abs b1 b2, .fixed 6⟩,
        ⟨.sloIndY b1, 0x13, .indY b1, .fixed 8⟩,
        ⟨.sloZpX b1, 0x17, .zpX b1, .fixed 6⟩,
        ⟨.sloAbsY b1 b2, 0x1B, .absY b1 b2, .fixed 7⟩,
        ⟨.sloAbsX b1 b2, 0x1F, .absX b1 b2, .fixed 7⟩] : List MemRow),
      f.Correct ∧ (discardedReadBlocked .readModifyWrite f.mode s = false →
        let v := s.read .data (effAddr f.mode s)
        ∃ (r w : Byte) (t : State), r.toNat = 2 * v.toNat % 256 ∧ w = s.a ||| r ∧ exec f.instr s = .next t ∧
          StoresExactly s t [(effAddr f.mode s, r)] ∧
          t = { s with mem := t.mem, a := w, p := { s.p with n := w.getLsbD 7, z := decide (w = 0), c := v.getLsbD 7 } }.retire
            f.mode.length)) ∧
    (∀ f ∈ ([
        ⟨.rlaIndX b1, 0x23, .indX b1, .fixed 8⟩,
        ⟨.rlaZp b1, 0x27, .zp b1, .fixed 5⟩,
        ⟨.rlaAbs b1 b2, 0x2F, .abs b1 b2, .fixed 6⟩,
        ⟨.rlaIndY b1, 0x33, .indY b1, .fixed 8⟩,
        ⟨.rlaZpX b1, 0x37, .zpX b1, .fixed 6⟩,
        ⟨.rlaAbsY b1 b2, 0x3B, .absY b1 b2, .fixed 7⟩,
        ⟨.rlaAbsX b1 b2, 0x3F, .absX b1 b2, .fixed 7⟩] : List MemRow),
      f.Correct ∧ (discardedReadBlocked .readModifyWrite f.mode s = false →
        let v := s.read .data (effAddr f.mode s)
        ∃ (r w : Byte) (t : State), r.toNat = 2 * v.toNat % 256 + bitVal s.p.c ∧ w = s.a &&& r ∧ exec f.instr s = .next t ∧
          StoresExactly s t [(effAddr f.mode s, r)] ∧
          t = { s with mem := t.mem, a := w, p := { s.p with n := w.getLsbD 7, z := decide (w = 0), c := v.getLsbD 7 } }.retire
            f.mode.length)) ∧
    (∀ f ∈ ([
        ⟨.sreIndX b1, 0x43, .indX b1, .fixed 8⟩,
        ⟨.sreZp b1, 0x47, .zp b1, .fixed 5⟩,
        ⟨.sreAbs b1 b2, 0x4F, .abs b1 b2, .fixed 6⟩,
        ⟨.sreIndY b1, 0x53, .indY b1, .fixed 8⟩,
        ⟨.sreZpX b1, 0x57, .zpX b1, .fixed 6⟩,
        ⟨.sreAbsY b1 b2, 0x5B, .absY b1 b2, .fixed 7⟩,
        ⟨.sreAbsX b1 b2, 0x5F, .absX b1 b2, .fixed 7⟩] : List MemRow),
      f.Correct ∧ (discardedReadBlocked .readModifyWrite f.mode s = false →
        let v := s.read .data (effAddr f.mode s)
        ∃ (r w : Byte) (t : State), r.toNat = v.toNat / 2 ∧ w = s.a ^^^ r ∧ exec f.instr s = .next t ∧
          StoresExactly s t [(effAddr f.mode s, r)] ∧
          t = { s with mem := t.mem, a := w, p := { s.p with n := w.getLsbD 7, z := decide (w = 0), c := v.getLsbD 0 } }.retire
            f.mode.length))

/-- RRA (rraIndX, rraZp, rraAbs, rraIndY, rraZpX, rraAbsY, rraAbsX): the rotated byte r is stored at the effective
address and nowhere else. With D = 0, A becomes A + r + (bit rotated out) modulo 256 with C, V, N, Z of that
binary sum; with D = 1 and valid BCD operands A and C are the decimal sum's, while N, V, Z (and A, C otherwise)
are left to the parameter DecimalALU. All else but PC is unchanged.
Spec: 49_undocumented.md R241. -/
def Obligations.RraRotatesThenAdds : Prop :=
  ∀ (b1 b2 : Byte) (s : State),
    ∀ f ∈ ([
        ⟨.rraIndX b1, 0x63, .indX b1, .fixed 8⟩,
        ⟨.rraZp b1, 0x67, .zp b1, .fixed 5⟩,
        ⟨.rraAbs b1 b2, 0x6F, .abs b1 b2, .fixed 6⟩,
        ⟨.rraIndY b1, 0x73, .indY b1, .fixed 8⟩,
        ⟨.rraZpX b1, 0x77, .zpX b1, .fixed 6⟩,
        ⟨.rraAbsY b1 b2, 0x7B, .absY b1 b2, .fixed 7⟩,
        ⟨.rraAbsX b1 b2, 0x7F, .absX b1 b2, .fixed 7⟩] : List MemRow),
      f.Correct ∧ (discardedReadBlocked .readModifyWrite f.mode s = false →
        let v := s.read .data (effAddr f.mode s)
        let c1 := v.getLsbD 0
        ∃ (r : Byte) (t : State), r.toNat = v.toNat / 2 + 128 * bitVal s.p.c ∧ exec f.instr s = .next t ∧
          StoresExactly s t [(effAddr f.mode s, r)] ∧
          (s.p.d = false → t.a.toNat = (s.a.toNat + r.toNat + bitVal c1) % 256 ∧
            t.p = { s.p with n := t.a.getLsbD 7, v := ((s.a ^^^ t.a) &&& (r ^^^ t.a)).getLsbD 7, z := decide (t.a = 0),
                             c := decide (255 < s.a.toNat + r.toNat + bitVal c1) }) ∧
          (s.p.d = true → validBcd s.a = true → validBcd r = true →
            validBcd t.a = true ∧ bcdValue t.a = (bcdValue s.a + bcdValue r + bitVal c1) % 100 ∧
            t.p.c = decide (99 < bcdValue s.a + bcdValue r + bitVal c1)) ∧
          t = { s with mem := t.mem, a := t.a,
                       p := { s.p with n := t.p.n, v := t.p.v, z := t.p.z, c := t.p.c } }.retire f.mode.length)

/-- DCP (dcpIndX, dcpZp, dcpAbs, dcpIndY, dcpZpX, dcpAbsY, dcpAbsX): the byte minus 1 is stored and compared with A
(C, Z, N), A unchanged. ISC (iscIndX, iscZp, iscAbs, iscIndY, iscZpX, iscAbsY, iscAbsX): the byte plus 1 is
stored and, with D = 0, subtracted with borrow from A (C, V, N, Z of the binary difference); with D = 1 and
valid BCD operands A and C are the decimal difference's, the rest left to DecimalALU. The store goes to the
effective address only; all else but PC is unchanged.
Spec: 49_undocumented.md R234, R235. -/
def Obligations.DcpAndIscStepThenSubtract : Prop :=
  ∀ (b1 b2 : Byte) (s : State),
    (∀ f ∈ ([
        ⟨.dcpIndX b1, 0xC3, .indX b1, .fixed 8⟩,
        ⟨.dcpZp b1, 0xC7, .zp b1, .fixed 5⟩,
        ⟨.dcpAbs b1 b2, 0xCF, .abs b1 b2, .fixed 6⟩,
        ⟨.dcpIndY b1, 0xD3, .indY b1, .fixed 8⟩,
        ⟨.dcpZpX b1, 0xD7, .zpX b1, .fixed 6⟩,
        ⟨.dcpAbsY b1 b2, 0xDB, .absY b1 b2, .fixed 7⟩,
        ⟨.dcpAbsX b1 b2, 0xDF, .absX b1 b2, .fixed 7⟩] : List MemRow),
      f.Correct ∧ (discardedReadBlocked .readModifyWrite f.mode s = false →
        let v := s.read .data (effAddr f.mode s)
        ∃ (r : Byte) (t : State), r.toNat = (v.toNat + 255) % 256 ∧ exec f.instr s = .next t ∧
          StoresExactly s t [(effAddr f.mode s, r)] ∧
          t = { s with mem := t.mem, p := { s.p with n := decide (128 ≤ (256 + s.a.toNat - r.toNat) % 256),
                                                     z := decide (s.a = r), c := decide (r.toNat ≤ s.a.toNat) } }.retire
            f.mode.length)) ∧
    (∀ f ∈ ([
        ⟨.iscIndX b1, 0xE3, .indX b1, .fixed 8⟩,
        ⟨.iscZp b1, 0xE7, .zp b1, .fixed 5⟩,
        ⟨.iscAbs b1 b2, 0xEF, .abs b1 b2, .fixed 6⟩,
        ⟨.iscIndY b1, 0xF3, .indY b1, .fixed 8⟩,
        ⟨.iscZpX b1, 0xF7, .zpX b1, .fixed 6⟩,
        ⟨.iscAbsY b1 b2, 0xFB, .absY b1 b2, .fixed 7⟩,
        ⟨.iscAbsX b1 b2, 0xFF, .absX b1 b2, .fixed 7⟩] : List MemRow),
      f.Correct ∧ (discardedReadBlocked .readModifyWrite f.mode s = false →
        let v := s.read .data (effAddr f.mode s)
        ∃ (r : Byte) (t : State), r.toNat = (v.toNat + 1) % 256 ∧ exec f.instr s = .next t ∧
          StoresExactly s t [(effAddr f.mode s, r)] ∧
          (s.p.d = false → t.a.toNat = (256 + s.a.toNat - r.toNat - (1 - bitVal s.p.c)) % 256 ∧
            t.p = { s.p with n := t.a.getLsbD 7, v := ((s.a ^^^ r) &&& (s.a ^^^ t.a)).getLsbD 7, z := decide (t.a = 0),
                             c := decide (r.toNat + (1 - bitVal s.p.c) ≤ s.a.toNat) }) ∧
          (s.p.d = true → validBcd s.a = true → validBcd r = true →
            validBcd t.a = true ∧
            (bcdValue t.a : Int) = ((bcdValue s.a : Int) - bcdValue r - (1 - bitVal s.p.c : Int)) % 100 ∧
            t.p.c = decide (bcdValue r + (1 - bitVal s.p.c) ≤ bcdValue s.a)) ∧
          t = { s with mem := t.mem, a := t.a,
                       p := { s.p with n := t.p.n, v := t.p.v, z := t.p.z, c := t.p.c } }.retire f.mode.length))

/-- LAX (laxIndX, laxZp, laxImm, laxAbs, laxIndY, laxZpY, laxAbsY): A and X both take the operand byte. LAS
(lasAbsY): A, X and S take the byte AND S. N and Z are those of the value; all else but PC is unchanged. LAX #d8
(laxImm) is of class fragile: it is stated here where the parameter UnstableOps says rule, the spec's choice
D14, and UnstableOpsParameter states it for draw and refuse (log 10).
Spec: 49_undocumented.md R237, R238. -/
def Obligations.LaxAndLasLoadSeveralRegisters : Prop :=
  ∀ (b1 b2 : Byte) (s : State),
    (∀ f ∈ ([
        ⟨.laxIndX b1, 0xA3, .memory (.indX b1), .fixed 6⟩,
        ⟨.laxZp b1, 0xA7, .memory (.zp b1), .fixed 3⟩,
        ⟨.laxImm b1, 0xAB, .immediate b1, .fixed 2⟩,
        ⟨.laxAbs b1 b2, 0xAF, .memory (.abs b1 b2), .fixed 4⟩,
        ⟨.laxIndY b1, 0xB3, .memory (.indY b1), .paged 5⟩,
        ⟨.laxZpY b1, 0xB7, .memory (.zpY b1), .fixed 4⟩,
        ⟨.laxAbsY b1 b2, 0xBF, .memory (.absY b1 b2), .paged 4⟩] : List ReadRow),
      f.Correct ∧ (sourceBlocked f.source s = false → unstableUse f.instr s = .rule →
        let m := sourceValue f.source s
        exec f.instr s = .next
          ({ s with a := m, x := m, p := { s.p with n := m.getLsbD 7, z := decide (m = 0) } }.retire f.source.length))) ∧
    (∀ f ∈ ([
        ⟨.lasAbsY b1 b2, 0xBB, .memory (.absY b1 b2), .paged 4⟩] : List ReadRow),
      f.Correct ∧ (sourceBlocked f.source s = false →
        let r := sourceValue f.source s &&& s.sp
        exec f.instr s = .next
          ({ s with a := r, x := r, sp := r, p := { s.p with n := r.getLsbD 7, z := decide (r = 0) } }.retire
            f.source.length)))

/-- shaIndY, shaAbsY, shxAbsY, shyAbsX, shsAbsY: the value AND (high byte of the un-indexed address plus 1, modulo
256) is stored at the effective address and nowhere else; for SHA (a8),Y that high byte is the pointer's in page
zero (decision D26, log 21); SHS also sets S to A AND X. Nothing else but PC changes. Class fragile: stated here
where the parameter UnstableOps says rule, the spec's choice D14; UnstableOpsParameter states draw and refuse
(log 10).
Spec: 49_undocumented.md R245 to R248. -/
def Obligations.StoresWithTheHighAddressByte : Prop :=
  ∀ (b1 b2 : Byte) (s : State),
    ∀ f ∈ ([
        (⟨.shaIndY b1, 0x93, .indY b1, .fixed 6⟩, s.a &&& s.x &&& (s.read .pointerHigh (zext (b1 + 1)) + 1), s.sp),
        (⟨.shsAbsY b1 b2, 0x9B, .absY b1 b2, .fixed 5⟩, s.a &&& s.x &&& (b2 + 1), s.a &&& s.x),
        (⟨.shyAbsX b1 b2, 0x9C, .absX b1 b2, .fixed 5⟩, s.y &&& (b2 + 1), s.sp),
        (⟨.shxAbsY b1 b2, 0x9E, .absY b1 b2, .fixed 5⟩, s.x &&& (b2 + 1), s.sp),
        (⟨.shaAbsY b1 b2, 0x9F, .absY b1 b2, .fixed 5⟩, s.a &&& s.x &&& (b2 + 1), s.sp)] : List (MemRow × Byte × Byte)),
      f.1.Correct ∧ (discardedReadBlocked .write f.1.mode s = false → unstableUse f.1.instr s = .rule →
        ∃ t, exec f.1.instr s = .next t ∧ StoresExactly s t [(effAddr f.1.mode s, f.2.1)] ∧
          t = { s with mem := t.mem, sp := f.2.2 }.retire f.1.mode.length)

/-- ANC (ancImm0B, ancImm2B): A becomes A AND M, N and C its bit 7, Z its zero test. ASR (asrImm): A becomes half of
A AND M, C the bit shifted out, N 0. SBX (sbxImm): X becomes (A AND X) - M modulo 256, C says it is not
negative, N and Z from X, A unchanged. All else but PC is unchanged.
Spec: R231, R233, R244. -/
def Obligations.AncAsrSbxImmediates : Prop :=
  ∀ (b1 : Byte) (s : State),
    (∀ f ∈ ([(.ancImm0B b1, 0x0B), (.ancImm2B b1, 0x2B)] : List (Instr × Byte)),
      IsRow f.1 f.2 (.immediate b1) (.fixed 2) ∧
      exec f.1 s = .next ({ s with a := s.a &&& b1, p := { s.p with
        n := (s.a &&& b1).getLsbD 7, z := decide (s.a &&& b1 = 0), c := (s.a &&& b1).getLsbD 7 } }.retire 2)) ∧
    (IsRow (.asrImm b1) 0x4B (.immediate b1) (.fixed 2) ∧ ∃ r : Byte, r.toNat = (s.a &&& b1).toNat / 2 ∧
      exec (.asrImm b1) s = .next ({ s with a := r, p := { s.p with
        n := false, z := decide (r = 0), c := (s.a &&& b1).getLsbD 0 } }.retire 2)) ∧
    (IsRow (.sbxImm b1) 0xCB (.immediate b1) (.fixed 2) ∧
      ∃ r : Byte, r.toNat = (256 + (s.a &&& s.x).toNat - b1.toNat) % 256 ∧
      exec (.sbxImm b1) s = .next ({ s with x := r, p := { s.p with
        n := r.getLsbD 7, z := decide (r = 0), c := decide (b1.toNat ≤ (s.a &&& s.x).toNat) } }.retire 2))

/-- ARR (arrImm): with t = A AND M, A becomes t / 2 plus 128 times the input carry, N and Z from it. With D = 0, C
is bit 6 of the result and V its bit 6 exclusive-or bit 5. With D = 1, V says bit 6 of the result differs from
bit 6 of t and C says (t & F0) + (t & 10) exceeds 50 (hexadecimal). All else but PC is unchanged. The case D = 1
is of class fragile: it reads the source as D28 does (log 21), and is stated where the parameter UnstableOps
says rule (D14, log 10); UnstableOpsParameter states it for draw and refuse.
Spec: 49_undocumented.md R232, 92_eei_decisions.md D28, 92_eei_decisions.md D14. -/
def Obligations.ArrRotatesTheAnd : Prop :=
  ∀ (b1 : Byte) (s : State),
    IsRow (.arrImm b1) 0x6B (.immediate b1) (.fixed 2) ∧
    let t := s.a &&& b1
    ∃ r : Byte, r.toNat = t.toNat / 2 + 128 * bitVal s.p.c ∧
      (s.p.d = false → exec (.arrImm b1) s = .next ({ s with a := r, p := { s.p with
        n := r.getLsbD 7, z := decide (r = 0), c := r.getLsbD 6,
        v := decide (r.getLsbD 6 ≠ r.getLsbD 5) } }.retire 2)) ∧
      (s.p.d = true → s.plat.unstable.arrDecimal = .rule → exec (.arrImm b1) s = .next ({ s with a := r, p := { s.p with
        n := r.getLsbD 7, z := decide (r = 0), v := decide (r.getLsbD 6 ≠ t.getLsbD 6),
        c := decide (0x50 < 16 * (t.toNat / 16) + 16 * (t.toNat / 16 % 2)) } }.retire 2))

/-- XAA (xaaImm, 8B): there is a byte r, of which nothing is said, such that A becomes r, N is its bit 7 and Z its
zero test; X, C, V and all else but PC are unchanged. The byte is a free value (log 11). It runs unless the
parameter UnstableOps refuses it, which UnstableOpsParameter states (log 10).
Spec: R251. -/
def Obligations.XaaDrawsItsResult : Prop :=
  ∀ (b1 : Byte) (s : State),
    IsRow (.xaaImm b1) 0x8B (.immediate b1) (.fixed 2) ∧
    (s.plat.unstable.xaa ≠ .refuse → ∃ r : Byte, exec (.xaaImm b1) s = .next ({ s with a := r, p := { s.p with
      n := r.getLsbD 7, z := decide (r = 0) } }.retire 2))

/-- nopZp04, nopAbs0C, nopZpX14, nop1A, nopAbsX1C, nopZpX34, nop3A, nopAbsX3C, nopZp44, nopZpX54, nop5A, nopAbsX5C,
nopZp64, nopZpX74, nop7A, nopAbsX7C, nopImm80, nopImm82, nopImm89, nopImmC2, nopZpXD4, nopDA, nopAbsXDC,
nopImmE2, nopZpXF4, nopFA, nopAbsXFC: only PC changes, by the length of the row; no register, no flag, no
memory.
Spec: R239. -/
def Obligations.UndocumentedNopsOnlyAdvance : Prop :=
  ∀ (b1 b2 : Byte) (s : State),
    ∀ f ∈ ([
        (.nopZp04 b1, 0x04, .memory (.zp b1), .fixed 3),
        (.nopAbs0C b1 b2, 0x0C, .memory (.abs b1 b2), .fixed 4),
        (.nopZpX14 b1, 0x14, .memory (.zpX b1), .fixed 4),
        (.nop1A, 0x1A, .implied, .fixed 2),
        (.nopAbsX1C b1 b2, 0x1C, .memory (.absX b1 b2), .paged 4),
        (.nopZpX34 b1, 0x34, .memory (.zpX b1), .fixed 4),
        (.nop3A, 0x3A, .implied, .fixed 2),
        (.nopAbsX3C b1 b2, 0x3C, .memory (.absX b1 b2), .paged 4),
        (.nopZp44 b1, 0x44, .memory (.zp b1), .fixed 3),
        (.nopZpX54 b1, 0x54, .memory (.zpX b1), .fixed 4),
        (.nop5A, 0x5A, .implied, .fixed 2),
        (.nopAbsX5C b1 b2, 0x5C, .memory (.absX b1 b2), .paged 4),
        (.nopZp64 b1, 0x64, .memory (.zp b1), .fixed 3),
        (.nopZpX74 b1, 0x74, .memory (.zpX b1), .fixed 4),
        (.nop7A, 0x7A, .implied, .fixed 2),
        (.nopAbsX7C b1 b2, 0x7C, .memory (.absX b1 b2), .paged 4),
        (.nopImm80 b1, 0x80, .immediate b1, .fixed 2),
        (.nopImm82 b1, 0x82, .immediate b1, .fixed 2),
        (.nopImm89 b1, 0x89, .immediate b1, .fixed 2),
        (.nopImmC2 b1, 0xC2, .immediate b1, .fixed 2),
        (.nopZpXD4 b1, 0xD4, .memory (.zpX b1), .fixed 4),
        (.nopDA, 0xDA, .implied, .fixed 2),
        (.nopAbsXDC b1 b2, 0xDC, .memory (.absX b1 b2), .paged 4),
        (.nopImmE2 b1, 0xE2, .immediate b1, .fixed 2),
        (.nopZpXF4 b1, 0xF4, .memory (.zpX b1), .fixed 4),
        (.nopFA, 0xFA, .implied, .fixed 2),
        (.nopAbsXFC b1 b2, 0xFC, .memory (.absX b1 b2), .paged 4)] : List (Instr × Byte × Operand × Timing)),
      IsRow f.1 f.2.1 f.2.2.1 f.2.2.2 ∧
      ((∀ m, f.2.2.1 = .memory m → discardedReadBlocked .read m s = false) →
        exec f.1 s = .next { s with pc := s.pc + BitVec.ofNat 16 f.2.2.1.length, iPrev := s.p.i, draws := s.draws + 1 })

/-- jam02, jam12, jam22, jam32, jam42, jam52, jam62, jam72, jam92, jamB2, jamD2, jamF2: halted becomes true; A, X,
Y, S, the six flags and memory are unchanged; PC becomes some value, of which nothing is said. From then on,
while no RESET is asserted, a step changes nothing. That such a step answers the same state, PC included, is the
model's reading, log 12 (DEDUCED); that the reset line is read after the environment's input only is the model's
choice, log 28.
Spec: 49_undocumented.md R236, 60_exceptions.md R278. -/
def Obligations.JamHaltsTheCpu : Prop :=
  ∀ s : State,
    (∀ f ∈ ([
        (.jam02, 0x02),
        (.jam12, 0x12),
        (.jam22, 0x22),
        (.jam32, 0x32),
        (.jam42, 0x42),
        (.jam52, 0x52),
        (.jam62, 0x62),
        (.jam72, 0x72),
        (.jam92, 0x92),
        (.jamB2, 0xB2),
        (.jamD2, 0xD2),
        (.jamF2, 0xF2)] : List (Instr × Byte)),
      IsRow f.1 f.2 .implied .never ∧
      ∃ pc, exec f.1 s = .next { s with halted := true, pc := pc, iPrev := s.p.i, draws := s.draws + 1 }) ∧
    (s.takeInput.halted = true → s.takeInput.resetLine = false → step s = .next s.takeInput)

/-- For every instruction and state: exec answers unstableOpcode exactly when UnstableOps refuses the instruction
(D14, log 10); otherwise it answers discardedReadOfDevice exactly when the instruction has a memory operand
whose access D16 refuses (its mode is a16,X or a16,Y and the un-indexed address, or the extra read of real
parts, falls on a device whose reads have side effects; log 8). In every other case it answers a next state.
Spec: 92_eei_decisions.md D16, 20_memory.md R58, 92_eei_decisions.md D14, 49_undocumented.md R230, R251. -/
def Obligations.RefusedExactlyWhereTheSpecSays : Prop :=
  ∀ (i : Instr) (s : State),
    (exec i s = .refused .unstableOpcode ↔ unstableUse i s = .refuse) ∧
    (exec i s = .refused .discardedReadOfDevice ↔ unstableUse i s ≠ .refuse ∧
      ∃ m c, i.operand = .memory m ∧ accessClass i = some c ∧ discardedReadBlocked c m s = true) ∧
    (∀ r, exec i s = .refused r → r = .unstableOpcode ∨ r = .discardedReadOfDevice) ∧
    ((∃ t, exec i s = .next t) ∨ ∃ r, exec i s = .refused r) ∧
    (∀ m c, i.operand = .memory m → discardedReadBlocked c m s = true →
      (∃ b1 b2, m = .absX b1 b2 ∨ m = .absY b1 b2) ∧ ∃ a, kindAt s.plat a = .device true)

/-- For every instruction (all 256) and every state in which it answers a next state: each flag whose position in
the mnemonic's flag column is - keeps its value, each 0 is cleared and each 1 is set.
Spec: R38. -/
def Obligations.FlagsFollowTheFlagColumns : Prop :=
  ∀ (i : Instr) (s t : State), exec i s = .next t → (flagColumn i.mnemonic).Holds s.p t.p

/-- For every instruction and state with a next state: A is unchanged unless the mnemonic is one of R22's writers or
a shift in accumulator mode; X unless one of R23's; Y unless one of R24's; S unless TXS, LAS, SHS or an
instruction that pushes or pulls (R25, R27).
Spec: 10_state.md section 2. -/
def Obligations.RegistersHaveOnlyTheirWriters : Prop :=
  ∀ (i : Instr) (s t : State), exec i s = .next t →
    (i.mnemonic ∉ writersOfA → i.operand ≠ .accumulator → t.a = s.a) ∧
    (i.mnemonic ∉ writersOfX → t.x = s.x) ∧ (i.mnemonic ∉ writersOfY → t.y = s.y) ∧
    (i.mnemonic ∉ writersOfS → t.sp = s.sp)

/-- For every instruction and state with a next state: reading any address outside storedAddrs i s (the effective
address of a class write or read/modify/write, the stack bytes pushed; nothing for all others) gives what it
gave before, whatever the platform; and an address that is not RAM is never changed.
Spec: 20_memory.md section 3, 40_addressing_modes.md R114. -/
def Obligations.InstructionsStoreOnlyAtTheirAddresses : Prop :=
  ∀ (i : Instr) (s t : State), exec i s = .next t → ∀ a : Addr,
    (a ∉ storedAddrs i s → t.byteAt a = s.byteAt a) ∧ (kindAt s.plat a ≠ .ram → t.byteAt a = s.byteAt a)

/-- For every instruction and state with a next state: the three input lines, the platform, the schedule and the
collision signal are unchanged; halted is set by JAM and by nothing else; the NMI latch is unchanged but by a
BRK with which an NMI collides; iPrev is the I from before CLI, SEI and PLP and the current I after every other
instruction; the draw counter moves on. The platform, the schedule, the collision signal and the draw counter
are the model's own fields (log 4, log 5, log 13, log 6), and so is what is said of them.
Spec: 10_state.md R39, R40, R41, 10_state.md section 4. -/
def Obligations.InstructionsKeepLinesAndHiddenState : Prop :=
  ∀ (i : Instr) (s t : State), exec i s = .next t →
    t.irqLine = s.irqLine ∧ t.resetLine = s.resetLine ∧ t.soLine = s.soLine ∧ t.plat = s.plat ∧ t.env = s.env ∧
    t.during = s.during ∧ t.draws = s.draws + 1 ∧
    t.halted = (s.halted || decide (i.mnemonic = .jam)) ∧
    (i.mnemonic ≠ .brk ∨ s.during ≠ some .nmi → t.nmiPending = s.nmiPending) ∧
    (i.mnemonic ∈ [Mnemonic.cli, .sei, .plp] → t.iPrev = s.p.i) ∧
    (i.mnemonic ∉ [Mnemonic.cli, .sei, .plp] → t.iPrev = t.p.i)

/-- For every state with Inv (memory in canonical form; no NMI latched while halted), if step answers a next state
then that state has Inv and the same platform. The canonical form is the model's representation of memory (log
2); the second part is R236's sentence that an NMI edge arriving while halted is lost (log 12); that the
platform, R42's parameters, is a field of State which no step changes is the model's choice, log 4.
Spec: 20_memory.md section 1, 10_state.md R42, 49_undocumented.md R236. -/
def Obligations.StepKeepsInvariant : Prop :=
  ∀ s t : State, Inv s → step s = .next t → Inv t ∧ t.plat = s.plat

/-- For every state whose platform has no device whose reads have side effects and refuses no unstable opcode (log
8, log 10), and every schedule of the environment, a run of any number of steps answers a next state at every
step: no instruction, interrupt, reset or halt stops the machine. That a run goes on from a halted state, each
step answering the same state, is the model's reading, log 12 (DEDUCED).
Spec: 00_scope.md R11, 30_encoding.md R90. -/
def Obligations.RunsNeverStop : Prop :=
  ∀ (k : Nat) (s : State), NoReadEffects s.plat → NoUnstableRefusal s.plat.unstable → RunsOn k s

/-- a8, a8,X, a8,Y, (a8,X), (a8),Y, a16, a16,X, a16,Y: the address as a number. Zero-page sums wrap modulo 256 and
pointer bytes stay in page zero; all other sums wrap modulo 65536. The indexed absolute modes make the discarded
read of the un-indexed address after the instruction bytes and before the operand access: for every instruction
in a16,X or a16,Y, busTrace is the reads of the three instruction bytes, the read of the un-indexed address,
then by its class the read, the write, or the read and the write at the effective address. The order is a
function beside the machine, log 18.
Spec: 40_addressing_modes.md R104 to R111, 20_memory.md R58, 20_memory.md R60. -/
def Obligations.EffectiveAddresses : Prop :=
  ∀ (b1 b2 : Byte) (s : State),
    let ptr := fun p : Nat =>
      256 * (s.read .pointerHigh (BitVec.ofNat 16 ((p + 1) % 256))).toNat + (s.read .pointerLow (BitVec.ofNat 16 p)).toNat
    let word := 256 * b2.toNat + b1.toNat
    (effAddr (.zp b1) s).toNat = b1.toNat ∧
    (effAddr (.zpX b1) s).toNat = (b1.toNat + s.x.toNat) % 256 ∧
    (effAddr (.zpY b1) s).toNat = (b1.toNat + s.y.toNat) % 256 ∧
    (effAddr (.indX b1) s).toNat = ptr ((b1.toNat + s.x.toNat) % 256) ∧
    (effAddr (.indY b1) s).toNat = (ptr b1.toNat + s.y.toNat) % 65536 ∧
    (effAddr (.abs b1 b2) s).toNat = word ∧
    (effAddr (.absX b1 b2) s).toNat = (word + s.x.toNat) % 65536 ∧
    (effAddr (.absY b1 b2) s).toNat = (word + s.y.toNat) % 65536 ∧
    modeAccesses (.absX b1 b2) s = [.read (join b2 b1)] ∧ modeAccesses (.absY b1 b2) s = [.read (join b2 b1)] ∧
    let reading := [Mnemonic.ora, .nopUndoc, .and, .eor, .adc, .lda, .las, .ldy, .ldx, .lax, .cmp, .sbc]
    let writing := [Mnemonic.sta, .shs, .shy, .shx, .sha]
    let stepping := [Mnemonic.slo, .asl, .rla, .rol, .sre, .lsr, .rra, .ror, .dcp, .dec, .isc, .inc]
    let before := [Access.read s.pc, .read (s.pc + 1), .read (s.pc + 2), .read (join b2 b1)]
    ∀ m ∈ [MemMode.absX b1 b2, .absY b1 b2], ∀ i : Instr, i.operand = .memory m →
      i.mnemonic ∈ reading ++ writing ++ stepping ∧
      (i.mnemonic ∈ reading → busTrace i s = before ++ [.read (effAddr m s)]) ∧
      (i.mnemonic ∈ writing → busTrace i s = before ++ [.write (effAddr m s)]) ∧
      (i.mnemonic ∈ stepping → busTrace i s = before ++ [.read (effAddr m s), .write (effAddr m s)])

/-- A read of RAM or ROM gives the stored byte; a read of an unmapped address or a device gives a free byte (nothing
is said of it). A write stores its byte in RAM and nowhere else; on ROM, an unmapped address or a device it
changes no memory. A write changes nothing but memory, and a read of RAM after a write of it gives the byte
written. What a device answers and does is the device's (R52, R53): the free byte it gives (log 6) and the
memory it leaves as it is are the model's choice, log 7.
Spec: 20_memory.md R52, R53, 92_eei_decisions.md D12. -/
def Obligations.MemoryPrimitives : Prop :=
  ∀ (s : State) (a : Addr) (v : Byte) (d : Draw),
    (kindAt s.plat a = .ram ∨ kindAt s.plat a = .rom → s.read d a = s.byteAt a) ∧
    (kindAt s.plat a ≠ .ram → kindAt s.plat a ≠ .rom → s.read d a = Config.freeByte s.draws d) ∧
    StoresExactly s (s.write a v) [(a, v)] ∧ s.write a v = { s with mem := (s.write a v).mem } ∧
    (kindAt s.plat a = .ram → Memory.wf s.mem = true → (s.write a v).read d a = v)

/-- Every row with cycle string 4+p in a16,X or a16,Y takes 4 cycles, and 5 exactly when the low byte of the base
plus the index exceeds 255; every row 5+p in (a8),Y takes 5, and 6 on a crossing by the pointer's low byte plus
Y. The eight branches take 2, 3 if taken to the page of the next instruction, 4 if taken to another. The twelve
JAM rows never complete. Every instruction with a fixed string takes that count (STA a16,X 5 whatever X is). The
letters p, t and X are read as D19 says; the count is a cost function beside the machine, log 17 (DESIGN
CHOICE).
Spec: 70_reset_and_hazards.md section 4, 40_addressing_modes.md R115, 92_eei_decisions.md D19. -/
def Obligations.CyclesCountPageCrossings : Prop :=
  ∀ (b1 b2 : Byte) (s : State),
    (∀ i ∈ [Instr.nopAbsX1C b1 b2, .oraAbsX b1 b2, .nopAbsX3C b1 b2, .andAbsX b1 b2, .nopAbsX5C b1 b2,
        .eorAbsX b1 b2, .nopAbsX7C b1 b2, .adcAbsX b1 b2, .ldyAbsX b1 b2, .ldaAbsX b1 b2, .nopAbsXDC b1 b2,
        .cmpAbsX b1 b2, .nopAbsXFC b1 b2, .sbcAbsX b1 b2],
      instrCycles i s = some (if 255 < b1.toNat + s.x.toNat then 5 else 4)) ∧
    (∀ i ∈ [Instr.oraAbsY b1 b2, .andAbsY b1 b2, .eorAbsY b1 b2, .adcAbsY b1 b2, .ldaAbsY b1 b2,
        .lasAbsY b1 b2, .ldxAbsY b1 b2, .laxAbsY b1 b2, .cmpAbsY b1 b2, .sbcAbsY b1 b2],
      instrCycles i s = some (if 255 < b1.toNat + s.y.toNat then 5 else 4)) ∧
    (∀ i ∈ [Instr.oraIndY b1, .andIndY b1, .eorIndY b1, .adcIndY b1, .ldaIndY b1, .laxIndY b1, .cmpIndY b1,
        .sbcIndY b1],
      instrCycles i s = some (if 255 < (s.read .pointerLow (zext b1)).toNat + s.y.toNat then 6 else 5)) ∧
    (∀ f ∈ ([(.bcc b1, !s.p.c), (.bcs b1, s.p.c), (.beq b1, s.p.z), (.bmi b1, s.p.n), (.bne b1, !s.p.z),
        (.bpl b1, !s.p.n), (.bvc b1, !s.p.v), (.bvs b1, s.p.v)] : List (Instr × Bool)),
      instrCycles f.1 s = some (if f.2 = false then 2
        else if (BitVec.ofInt 16 (s.pc.toNat + 2 + b1.toInt)).toNat / 256 = (s.pc.toNat + 2) % 65536 / 256 then 3
        else 4)) ∧
    (∀ i ∈ [Instr.jam02, .jam12, .jam22, .jam32, .jam42, .jam52, .jam62, .jam72, .jam92, .jamB2, .jamD2,
        .jamF2],
      instrCycles i s = none) ∧
    (∀ (i : Instr) (n : Nat), instrTiming i = .fixed n → instrCycles i s = some n) ∧
    instrCycles (.staAbsX b1 b2) s = some 5

/-- AddBinary and SubBinary: the result modulo 256, C as the range test on the sum or difference, V as the signed
range test and, equivalently, as the sign formula; and SubBinary of m is AddBinary of m xor FF in all results.
Spec: R120. -/
def Obligations.BinaryArithmeticHelpers : Prop :=
  ∀ (a m : Byte) (c : Bool),
    let r := addBinary a m c
    let q := subBinary a m c
    r.value.toNat = (a.toNat + m.toNat + bitVal c) % 256 ∧ r.c = decide (255 < a.toNat + m.toNat + bitVal c) ∧
    r.v = decide (¬(-128 ≤ a.toInt + m.toInt + bitVal c ∧ a.toInt + m.toInt + bitVal c ≤ 127)) ∧
    r.v = ((a ^^^ r.value) &&& (m ^^^ r.value)).getLsbD 7 ∧
    (q.value.toNat : Int) = ((a.toNat : Int) - m.toNat - (1 - bitVal c : Int)) % 256 ∧
    q.c = decide (0 ≤ (a.toNat : Int) - m.toNat - (1 - bitVal c : Int)) ∧
    q.v = decide (¬(-128 ≤ a.toInt - m.toInt - (1 - bitVal c : Int) ∧ a.toInt - m.toInt - (1 - bitVal c : Int) ≤ 127)) ∧
    q.v = ((a ^^^ m) &&& (a ^^^ q.value)).getLsbD 7 ∧
    q = addBinary a (m ^^^ 0xFF) c

/-- Where UnstableOps says draw: LAX #d8 loads some byte into A and X, N and Z from it; SHA, SHX, SHY, SHS store
some byte at the effective address and nowhere else, S being A AND X for SHS; ARR with D = 1 gives A some byte,
its flags being those of the rule, from the rotated t = A AND M; all else but PC is unchanged and nothing is
said of the byte. Where it says refuse: XAA, those, and ARR with D = 1 are refused as unstableOpcode. What a
draw replaces in each opcode is the model's choice, log 10 (DESIGN CHOICE); the rules themselves are stated with
each instruction.
Spec: 00_scope.md R5, 49_undocumented.md R230, R251, 92_eei_decisions.md D14, 93_implementation_defined.md U2,
U8, U9. -/
def Obligations.UnstableOpsParameter : Prop :=
  ∀ (b1 b2 : Byte) (s : State),
    let u := s.plat.unstable
    (u.laxImm = .draw → ∃ m : Byte, exec (.laxImm b1) s = .next
      ({ s with a := m, x := m, p := { s.p with n := m.getLsbD 7, z := decide (m = 0) } }.retire 2)) ∧
    (∀ f ∈ ([(.shaIndY b1, u.shaIndY, .indY b1, s.sp), (.shaAbsY b1 b2, u.shaAbsY, .absY b1 b2, s.sp),
        (.shxAbsY b1 b2, u.shxAbsY, .absY b1 b2, s.sp), (.shyAbsX b1 b2, u.shyAbsX, .absX b1 b2, s.sp),
        (.shsAbsY b1 b2, u.shsAbsY, .absY b1 b2, s.a &&& s.x)] : List (Instr × UnstableUse × MemMode × Byte)),
      f.2.1 = .draw → discardedReadBlocked .write f.2.2.1 s = false →
        ∃ (v : Byte) (t : State), exec f.1 s = .next t ∧ StoresExactly s t [(effAddr f.2.2.1 s, v)] ∧
          t = { s with mem := t.mem, sp := f.2.2.2 }.retire f.2.2.1.length) ∧
    (u.arrDecimal = .draw → s.p.d = true →
      let t := s.a &&& b1
      ∃ r q : Byte, q.toNat = t.toNat / 2 + 128 * bitVal s.p.c ∧
        exec (.arrImm b1) s = .next ({ s with a := r, p := { s.p with
          n := q.getLsbD 7, z := decide (q = 0), v := decide (q.getLsbD 6 ≠ t.getLsbD 6),
          c := decide (0x50 < 16 * (t.toNat / 16) + 16 * (t.toNat / 16 % 2)) } }.retire 2)) ∧
    (∀ f ∈ ([(.xaaImm b1, u.xaa), (.laxImm b1, u.laxImm), (.shaIndY b1, u.shaIndY), (.shaAbsY b1 b2, u.shaAbsY),
        (.shxAbsY b1 b2, u.shxAbsY), (.shyAbsX b1 b2, u.shyAbsX), (.shsAbsY b1 b2, u.shsAbsY)] : List (Instr × UnstableUse)),
      f.2 = .refuse → exec f.1 s = .refused .unstableOpcode) ∧
    (u.arrDecimal = .refuse → s.p.d = true → exec (.arrImm b1) s = .refused .unstableOpcode)
end

