-- ==== Sys2Proof/Laws/State.lean ====
section
/-! SUPPORT. One lemma per field per update of State, so that no later proof unfolds a record update. -/

namespace Sys2Proof.Machine

/-! ### `endAt` -/

@[simp] theorem State.endAt_a (pc : Addr) (s : State) : (s.endAt pc).a = s.a := rfl
@[simp] theorem State.endAt_x (pc : Addr) (s : State) : (s.endAt pc).x = s.x := rfl
@[simp] theorem State.endAt_y (pc : Addr) (s : State) : (s.endAt pc).y = s.y := rfl
@[simp] theorem State.endAt_sp (pc : Addr) (s : State) : (s.endAt pc).sp = s.sp := rfl
@[simp] theorem State.endAt_pc (pc : Addr) (s : State) : (s.endAt pc).pc = pc := rfl
@[simp] theorem State.endAt_p (pc : Addr) (s : State) : (s.endAt pc).p = s.p := rfl
@[simp] theorem State.endAt_mem (pc : Addr) (s : State) : (s.endAt pc).mem = s.mem := rfl
@[simp] theorem State.endAt_halted (pc : Addr) (s : State) : (s.endAt pc).halted = s.halted := rfl
@[simp] theorem State.endAt_nmiPending (pc : Addr) (s : State) : (s.endAt pc).nmiPending = s.nmiPending := rfl
@[simp] theorem State.endAt_iPrev (pc : Addr) (s : State) : (s.endAt pc).iPrev = s.p.i := rfl
@[simp] theorem State.endAt_irqLine (pc : Addr) (s : State) : (s.endAt pc).irqLine = s.irqLine := rfl
@[simp] theorem State.endAt_resetLine (pc : Addr) (s : State) : (s.endAt pc).resetLine = s.resetLine := rfl
@[simp] theorem State.endAt_soLine (pc : Addr) (s : State) : (s.endAt pc).soLine = s.soLine := rfl
@[simp] theorem State.endAt_plat (pc : Addr) (s : State) : (s.endAt pc).plat = s.plat := rfl
@[simp] theorem State.endAt_env (pc : Addr) (s : State) : (s.endAt pc).env = s.env := rfl
@[simp] theorem State.endAt_during (pc : Addr) (s : State) : (s.endAt pc).during = s.during := rfl
@[simp] theorem State.endAt_draws (pc : Addr) (s : State) : (s.endAt pc).draws = s.draws + 1 := rfl

/-! ### `retire` -/

@[simp] theorem State.retire_a (len : Nat) (s : State) : (s.retire len).a = s.a := rfl
@[simp] theorem State.retire_x (len : Nat) (s : State) : (s.retire len).x = s.x := rfl
@[simp] theorem State.retire_y (len : Nat) (s : State) : (s.retire len).y = s.y := rfl
@[simp] theorem State.retire_sp (len : Nat) (s : State) : (s.retire len).sp = s.sp := rfl
@[simp] theorem State.retire_pc (len : Nat) (s : State) : (s.retire len).pc = s.pc + BitVec.ofNat 16 len := rfl
@[simp] theorem State.retire_p (len : Nat) (s : State) : (s.retire len).p = s.p := rfl
@[simp] theorem State.retire_mem (len : Nat) (s : State) : (s.retire len).mem = s.mem := rfl
@[simp] theorem State.retire_halted (len : Nat) (s : State) : (s.retire len).halted = s.halted := rfl
@[simp] theorem State.retire_nmiPending (len : Nat) (s : State) : (s.retire len).nmiPending = s.nmiPending := rfl
@[simp] theorem State.retire_iPrev (len : Nat) (s : State) : (s.retire len).iPrev = s.p.i := rfl
@[simp] theorem State.retire_irqLine (len : Nat) (s : State) : (s.retire len).irqLine = s.irqLine := rfl
@[simp] theorem State.retire_resetLine (len : Nat) (s : State) : (s.retire len).resetLine = s.resetLine := rfl
@[simp] theorem State.retire_soLine (len : Nat) (s : State) : (s.retire len).soLine = s.soLine := rfl
@[simp] theorem State.retire_plat (len : Nat) (s : State) : (s.retire len).plat = s.plat := rfl
@[simp] theorem State.retire_env (len : Nat) (s : State) : (s.retire len).env = s.env := rfl
@[simp] theorem State.retire_during (len : Nat) (s : State) : (s.retire len).during = s.during := rfl
@[simp] theorem State.retire_draws (len : Nat) (s : State) : (s.retire len).draws = s.draws + 1 := rfl

/-! ### `retireDeferring` -/

@[simp] theorem State.retireDeferring_a (old : Bool) (len : Nat) (s : State) : (s.retireDeferring old len).a = s.a := rfl
@[simp] theorem State.retireDeferring_x (old : Bool) (len : Nat) (s : State) : (s.retireDeferring old len).x = s.x := rfl
@[simp] theorem State.retireDeferring_y (old : Bool) (len : Nat) (s : State) : (s.retireDeferring old len).y = s.y := rfl
@[simp] theorem State.retireDeferring_sp (old : Bool) (len : Nat) (s : State) : (s.retireDeferring old len).sp = s.sp := rfl
@[simp] theorem State.retireDeferring_pc (old : Bool) (len : Nat) (s : State) : (s.retireDeferring old len).pc = s.pc + BitVec.ofNat 16 len := rfl
@[simp] theorem State.retireDeferring_p (old : Bool) (len : Nat) (s : State) : (s.retireDeferring old len).p = s.p := rfl
@[simp] theorem State.retireDeferring_mem (old : Bool) (len : Nat) (s : State) : (s.retireDeferring old len).mem = s.mem := rfl
@[simp] theorem State.retireDeferring_halted (old : Bool) (len : Nat) (s : State) : (s.retireDeferring old len).halted = s.halted := rfl
@[simp] theorem State.retireDeferring_nmiPending (old : Bool) (len : Nat) (s : State) : (s.retireDeferring old len).nmiPending = s.nmiPending := rfl
@[simp] theorem State.retireDeferring_iPrev (old : Bool) (len : Nat) (s : State) : (s.retireDeferring old len).iPrev = old := rfl
@[simp] theorem State.retireDeferring_irqLine (old : Bool) (len : Nat) (s : State) : (s.retireDeferring old len).irqLine = s.irqLine := rfl
@[simp] theorem State.retireDeferring_resetLine (old : Bool) (len : Nat) (s : State) : (s.retireDeferring old len).resetLine = s.resetLine := rfl
@[simp] theorem State.retireDeferring_soLine (old : Bool) (len : Nat) (s : State) : (s.retireDeferring old len).soLine = s.soLine := rfl
@[simp] theorem State.retireDeferring_plat (old : Bool) (len : Nat) (s : State) : (s.retireDeferring old len).plat = s.plat := rfl
@[simp] theorem State.retireDeferring_env (old : Bool) (len : Nat) (s : State) : (s.retireDeferring old len).env = s.env := rfl
@[simp] theorem State.retireDeferring_during (old : Bool) (len : Nat) (s : State) : (s.retireDeferring old len).during = s.during := rfl
@[simp] theorem State.retireDeferring_draws (old : Bool) (len : Nat) (s : State) : (s.retireDeferring old len).draws = s.draws + 1 := rfl

/-! ### `setA` -/

@[simp] theorem State.setA_a (v : Byte) (s : State) : (s.setA v).a = v := rfl
@[simp] theorem State.setA_x (v : Byte) (s : State) : (s.setA v).x = s.x := rfl
@[simp] theorem State.setA_y (v : Byte) (s : State) : (s.setA v).y = s.y := rfl
@[simp] theorem State.setA_sp (v : Byte) (s : State) : (s.setA v).sp = s.sp := rfl
@[simp] theorem State.setA_pc (v : Byte) (s : State) : (s.setA v).pc = s.pc := rfl
@[simp] theorem State.setA_p (v : Byte) (s : State) : (s.setA v).p = s.p.setNZ v := rfl
@[simp] theorem State.setA_mem (v : Byte) (s : State) : (s.setA v).mem = s.mem := rfl
@[simp] theorem State.setA_halted (v : Byte) (s : State) : (s.setA v).halted = s.halted := rfl
@[simp] theorem State.setA_nmiPending (v : Byte) (s : State) : (s.setA v).nmiPending = s.nmiPending := rfl
@[simp] theorem State.setA_iPrev (v : Byte) (s : State) : (s.setA v).iPrev = s.iPrev := rfl
@[simp] theorem State.setA_irqLine (v : Byte) (s : State) : (s.setA v).irqLine = s.irqLine := rfl
@[simp] theorem State.setA_resetLine (v : Byte) (s : State) : (s.setA v).resetLine = s.resetLine := rfl
@[simp] theorem State.setA_soLine (v : Byte) (s : State) : (s.setA v).soLine = s.soLine := rfl
@[simp] theorem State.setA_plat (v : Byte) (s : State) : (s.setA v).plat = s.plat := rfl
@[simp] theorem State.setA_env (v : Byte) (s : State) : (s.setA v).env = s.env := rfl
@[simp] theorem State.setA_during (v : Byte) (s : State) : (s.setA v).during = s.during := rfl
@[simp] theorem State.setA_draws (v : Byte) (s : State) : (s.setA v).draws = s.draws := rfl

/-! ### `setC` -/

@[simp] theorem State.setC_a (c : Bool) (s : State) : (s.setC c).a = s.a := rfl
@[simp] theorem State.setC_x (c : Bool) (s : State) : (s.setC c).x = s.x := rfl
@[simp] theorem State.setC_y (c : Bool) (s : State) : (s.setC c).y = s.y := rfl
@[simp] theorem State.setC_sp (c : Bool) (s : State) : (s.setC c).sp = s.sp := rfl
@[simp] theorem State.setC_pc (c : Bool) (s : State) : (s.setC c).pc = s.pc := rfl
@[simp] theorem State.setC_p (c : Bool) (s : State) : (s.setC c).p = { s.p with c := c } := rfl
@[simp] theorem State.setC_mem (c : Bool) (s : State) : (s.setC c).mem = s.mem := rfl
@[simp] theorem State.setC_halted (c : Bool) (s : State) : (s.setC c).halted = s.halted := rfl
@[simp] theorem State.setC_nmiPending (c : Bool) (s : State) : (s.setC c).nmiPending = s.nmiPending := rfl
@[simp] theorem State.setC_iPrev (c : Bool) (s : State) : (s.setC c).iPrev = s.iPrev := rfl
@[simp] theorem State.setC_irqLine (c : Bool) (s : State) : (s.setC c).irqLine = s.irqLine := rfl
@[simp] theorem State.setC_resetLine (c : Bool) (s : State) : (s.setC c).resetLine = s.resetLine := rfl
@[simp] theorem State.setC_soLine (c : Bool) (s : State) : (s.setC c).soLine = s.soLine := rfl
@[simp] theorem State.setC_plat (c : Bool) (s : State) : (s.setC c).plat = s.plat := rfl
@[simp] theorem State.setC_env (c : Bool) (s : State) : (s.setC c).env = s.env := rfl
@[simp] theorem State.setC_during (c : Bool) (s : State) : (s.setC c).during = s.during := rfl
@[simp] theorem State.setC_draws (c : Bool) (s : State) : (s.setC c).draws = s.draws := rfl

/-! ### `write` -/

@[simp] theorem State.write_a (a : Addr) (v : Byte) (s : State) : (s.write a v).a = s.a := by
  unfold State.write; split <;> rfl
@[simp] theorem State.write_x (a : Addr) (v : Byte) (s : State) : (s.write a v).x = s.x := by
  unfold State.write; split <;> rfl
@[simp] theorem State.write_y (a : Addr) (v : Byte) (s : State) : (s.write a v).y = s.y := by
  unfold State.write; split <;> rfl
@[simp] theorem State.write_sp (a : Addr) (v : Byte) (s : State) : (s.write a v).sp = s.sp := by
  unfold State.write; split <;> rfl
@[simp] theorem State.write_pc (a : Addr) (v : Byte) (s : State) : (s.write a v).pc = s.pc := by
  unfold State.write; split <;> rfl
@[simp] theorem State.write_p (a : Addr) (v : Byte) (s : State) : (s.write a v).p = s.p := by
  unfold State.write; split <;> rfl
@[simp] theorem State.write_halted (a : Addr) (v : Byte) (s : State) : (s.write a v).halted = s.halted := by
  unfold State.write; split <;> rfl
@[simp] theorem State.write_nmiPending (a : Addr) (v : Byte) (s : State) : (s.write a v).nmiPending = s.nmiPending := by
  unfold State.write; split <;> rfl
@[simp] theorem State.write_iPrev (a : Addr) (v : Byte) (s : State) : (s.write a v).iPrev = s.iPrev := by
  unfold State.write; split <;> rfl
@[simp] theorem State.write_irqLine (a : Addr) (v : Byte) (s : State) : (s.write a v).irqLine = s.irqLine := by
  unfold State.write; split <;> rfl
@[simp] theorem State.write_resetLine (a : Addr) (v : Byte) (s : State) : (s.write a v).resetLine = s.resetLine := by
  unfold State.write; split <;> rfl
@[simp] theorem State.write_soLine (a : Addr) (v : Byte) (s : State) : (s.write a v).soLine = s.soLine := by
  unfold State.write; split <;> rfl
@[simp] theorem State.write_plat (a : Addr) (v : Byte) (s : State) : (s.write a v).plat = s.plat := by
  unfold State.write; split <;> rfl
@[simp] theorem State.write_env (a : Addr) (v : Byte) (s : State) : (s.write a v).env = s.env := by
  unfold State.write; split <;> rfl
@[simp] theorem State.write_during (a : Addr) (v : Byte) (s : State) : (s.write a v).during = s.during := by
  unfold State.write; split <;> rfl
@[simp] theorem State.write_draws (a : Addr) (v : Byte) (s : State) : (s.write a v).draws = s.draws := by
  unfold State.write; split <;> rfl

/-! ### `push` -/

@[simp] theorem State.push_a (v : Byte) (s : State) : (s.push v).a = s.a := by
  simp [State.push]
@[simp] theorem State.push_x (v : Byte) (s : State) : (s.push v).x = s.x := by
  simp [State.push]
@[simp] theorem State.push_y (v : Byte) (s : State) : (s.push v).y = s.y := by
  simp [State.push]
@[simp] theorem State.push_sp (v : Byte) (s : State) : (s.push v).sp = s.sp - 1 := by
  simp [State.push]
@[simp] theorem State.push_pc (v : Byte) (s : State) : (s.push v).pc = s.pc := by
  simp [State.push]
@[simp] theorem State.push_p (v : Byte) (s : State) : (s.push v).p = s.p := by
  simp [State.push]
@[simp] theorem State.push_mem (v : Byte) (s : State) : (s.push v).mem = (s.write (stackAddr s.sp) v).mem := by
  simp [State.push]
@[simp] theorem State.push_halted (v : Byte) (s : State) : (s.push v).halted = s.halted := by
  simp [State.push]
@[simp] theorem State.push_nmiPending (v : Byte) (s : State) : (s.push v).nmiPending = s.nmiPending := by
  simp [State.push]
@[simp] theorem State.push_iPrev (v : Byte) (s : State) : (s.push v).iPrev = s.iPrev := by
  simp [State.push]
@[simp] theorem State.push_irqLine (v : Byte) (s : State) : (s.push v).irqLine = s.irqLine := by
  simp [State.push]
@[simp] theorem State.push_resetLine (v : Byte) (s : State) : (s.push v).resetLine = s.resetLine := by
  simp [State.push]
@[simp] theorem State.push_soLine (v : Byte) (s : State) : (s.push v).soLine = s.soLine := by
  simp [State.push]
@[simp] theorem State.push_plat (v : Byte) (s : State) : (s.push v).plat = s.plat := by
  simp [State.push]
@[simp] theorem State.push_env (v : Byte) (s : State) : (s.push v).env = s.env := by
  simp [State.push]
@[simp] theorem State.push_during (v : Byte) (s : State) : (s.push v).during = s.during := by
  simp [State.push]
@[simp] theorem State.push_draws (v : Byte) (s : State) : (s.push v).draws = s.draws := by
  simp [State.push]

/-! ### `resetSequence` -/

@[simp] theorem State.resetSequence_a (s : State) : (s.resetSequence).a = Config.freeByte s.draws .resetA := rfl
@[simp] theorem State.resetSequence_x (s : State) : (s.resetSequence).x = Config.freeByte s.draws .resetX := rfl
@[simp] theorem State.resetSequence_y (s : State) : (s.resetSequence).y = Config.freeByte s.draws .resetY := rfl
@[simp] theorem State.resetSequence_sp (s : State) : (s.resetSequence).sp = Config.freeByte s.draws .resetS := rfl
@[simp] theorem State.resetSequence_pc (s : State) : (s.resetSequence).pc = s.readVector resetVector := rfl
@[simp] theorem State.resetSequence_mem (s : State) : (s.resetSequence).mem = s.mem := rfl
@[simp] theorem State.resetSequence_halted (s : State) : (s.resetSequence).halted = false := rfl
@[simp] theorem State.resetSequence_nmiPending (s : State) : (s.resetSequence).nmiPending = false := rfl
@[simp] theorem State.resetSequence_iPrev (s : State) : (s.resetSequence).iPrev = true := rfl
@[simp] theorem State.resetSequence_irqLine (s : State) : (s.resetSequence).irqLine = s.irqLine := rfl
@[simp] theorem State.resetSequence_resetLine (s : State) : (s.resetSequence).resetLine = s.resetLine := rfl
@[simp] theorem State.resetSequence_soLine (s : State) : (s.resetSequence).soLine = s.soLine := rfl
@[simp] theorem State.resetSequence_plat (s : State) : (s.resetSequence).plat = s.plat := rfl
@[simp] theorem State.resetSequence_env (s : State) : (s.resetSequence).env = s.env := rfl
@[simp] theorem State.resetSequence_during (s : State) : (s.resetSequence).during = s.during := rfl
@[simp] theorem State.resetSequence_draws (s : State) : (s.resetSequence).draws = s.draws + 1 := rfl

@[simp] theorem State.resetSequence_i (s : State) : s.resetSequence.p.i = true := rfl

/-! ### `returnFromInterrupt` -/

@[simp] theorem State.returnFromInterrupt_a (s : State) : (s.returnFromInterrupt).a = s.a := rfl
@[simp] theorem State.returnFromInterrupt_x (s : State) : (s.returnFromInterrupt).x = s.x := rfl
@[simp] theorem State.returnFromInterrupt_y (s : State) : (s.returnFromInterrupt).y = s.y := rfl
@[simp] theorem State.returnFromInterrupt_sp (s : State) : (s.returnFromInterrupt).sp = s.sp + 3 := rfl
@[simp] theorem State.returnFromInterrupt_pc (s : State) : (s.returnFromInterrupt).pc = join (s.pulled .pull3 3) (s.pulled .pull2 2) := rfl
@[simp] theorem State.returnFromInterrupt_p (s : State) : (s.returnFromInterrupt).p = statusOf (s.pulled .pull1 1) := rfl
@[simp] theorem State.returnFromInterrupt_mem (s : State) : (s.returnFromInterrupt).mem = s.mem := rfl
@[simp] theorem State.returnFromInterrupt_halted (s : State) : (s.returnFromInterrupt).halted = s.halted := rfl
@[simp] theorem State.returnFromInterrupt_nmiPending (s : State) : (s.returnFromInterrupt).nmiPending = s.nmiPending := rfl
@[simp] theorem State.returnFromInterrupt_iPrev (s : State) : (s.returnFromInterrupt).iPrev = (statusOf (s.pulled .pull1 1)).i := rfl
@[simp] theorem State.returnFromInterrupt_irqLine (s : State) : (s.returnFromInterrupt).irqLine = s.irqLine := rfl
@[simp] theorem State.returnFromInterrupt_resetLine (s : State) : (s.returnFromInterrupt).resetLine = s.resetLine := rfl
@[simp] theorem State.returnFromInterrupt_soLine (s : State) : (s.returnFromInterrupt).soLine = s.soLine := rfl
@[simp] theorem State.returnFromInterrupt_plat (s : State) : (s.returnFromInterrupt).plat = s.plat := rfl
@[simp] theorem State.returnFromInterrupt_env (s : State) : (s.returnFromInterrupt).env = s.env := rfl
@[simp] theorem State.returnFromInterrupt_during (s : State) : (s.returnFromInterrupt).during = s.during := rfl
@[simp] theorem State.returnFromInterrupt_draws (s : State) : (s.returnFromInterrupt).draws = s.draws + 1 := rfl

/-! ### `Status` updates -/

@[simp] theorem Status.setNZ_n (v : Byte) (p : Status) : (p.setNZ v).n = v.msb := rfl
@[simp] theorem Status.setAlu_n (r : AluResult) (p : Status) : (p.setAlu r).n = r.n := rfl
@[simp] theorem Status.compare_n (r m : Byte) (p : Status) : (p.compare r m).n = (r - m).msb := rfl
@[simp] theorem Status.setNZ_v (v : Byte) (p : Status) : (p.setNZ v).v = p.v := rfl
@[simp] theorem Status.setAlu_v (r : AluResult) (p : Status) : (p.setAlu r).v = r.v := rfl
@[simp] theorem Status.compare_v (r m : Byte) (p : Status) : (p.compare r m).v = p.v := rfl
@[simp] theorem Status.setNZ_d (v : Byte) (p : Status) : (p.setNZ v).d = p.d := rfl
@[simp] theorem Status.setAlu_d (r : AluResult) (p : Status) : (p.setAlu r).d = p.d := rfl
@[simp] theorem Status.compare_d (r m : Byte) (p : Status) : (p.compare r m).d = p.d := rfl
@[simp] theorem Status.setNZ_i (v : Byte) (p : Status) : (p.setNZ v).i = p.i := rfl
@[simp] theorem Status.setAlu_i (r : AluResult) (p : Status) : (p.setAlu r).i = p.i := rfl
@[simp] theorem Status.compare_i (r m : Byte) (p : Status) : (p.compare r m).i = p.i := rfl
@[simp] theorem Status.setNZ_z (v : Byte) (p : Status) : (p.setNZ v).z = (v == 0) := rfl
@[simp] theorem Status.setAlu_z (r : AluResult) (p : Status) : (p.setAlu r).z = r.z := rfl
@[simp] theorem Status.compare_z (r m : Byte) (p : Status) : (p.compare r m).z = ((r - m) == 0) := rfl
@[simp] theorem Status.setNZ_c (v : Byte) (p : Status) : (p.setNZ v).c = p.c := rfl
@[simp] theorem Status.setAlu_c (r : AluResult) (p : Status) : (p.setAlu r).c = r.c := rfl
@[simp] theorem Status.compare_c (r m : Byte) (p : Status) : (p.compare r m).c = decide (m.toNat ≤ r.toNat) := rfl

end Sys2Proof.Machine
end

