-- ==== Sys2Proof/Laws/Memory.lean ====
section
/-! SUPPORT. The laws of memory: a read after a write, the canonical form, and what `State.write` and `State.push`
do to the stored bytes. -/

namespace Sys2Proof.Machine

theorem Memory.wfFrom_mono {l l' : Nat} (h : l' ≤ l) :
    ∀ {m : List Host.Cell}, Memory.wfFrom l m = true → Memory.wfFrom l' m = true
  | [], _ => rfl
  | (k, w) :: t, hm => by
    simp only [Memory.wfFrom, Bool.and_eq_true, decide_eq_true_eq] at hm ⊢
    exact ⟨⟨⟨by omega, hm.1.1.2⟩, hm.1.2⟩, hm.2⟩

/-- An address below every cell reads as unlisted. -/
theorem Memory.get_below {l a : Nat} (h : a < l) :
    ∀ {m : List Host.Cell}, Memory.wfFrom l m = true → Memory.get m a = Memory.unlisted
  | [], _ => rfl
  | (k, w) :: t, hm => by
    simp only [Memory.wfFrom, Bool.and_eq_true, decide_eq_true_eq] at hm
    have hk : a ≠ k := by omega
    simp only [Memory.get, if_neg hk]
    exact Memory.get_below (by omega) hm.2

/-- A write keeps the canonical form. -/
theorem Memory.put_wfFrom {l a : Nat} (v : Byte) (hl : l ≤ a) (ha : a < 65536) :
    ∀ {m : List Host.Cell}, Memory.wfFrom l m = true → Memory.wfFrom l (Memory.put m a v) = true
  | [], _ => by
    by_cases hv : v = Memory.unlisted <;> simp [Memory.put, Memory.wfFrom, hv, hl, ha]
  | (k, w) :: t, hm => by
    have hm' := hm
    simp only [Memory.wfFrom, Bool.and_eq_true, decide_eq_true_eq] at hm'
    obtain ⟨⟨⟨hlk, hk⟩, hw⟩, ht⟩ := hm'
    unfold Memory.put
    split
    · rename_i hak
      split
      · exact hm
      · rename_i hv
        simp only [Memory.wfFrom, Bool.and_eq_true, decide_eq_true_eq]
        exact ⟨⟨⟨hl, ha⟩, hv⟩, ⟨⟨by omega, hk⟩, hw⟩, ht⟩
    · split
      · rename_i hak
        split
        · exact Memory.wfFrom_mono (by omega) ht
        · rename_i hv
          simp only [Memory.wfFrom, Bool.and_eq_true, decide_eq_true_eq]
          exact ⟨⟨⟨hl, ha⟩, hv⟩, hak ▸ ht⟩
      · simp only [Memory.wfFrom, Bool.and_eq_true, decide_eq_true_eq]
        exact ⟨⟨⟨hlk, hk⟩, hw⟩, Memory.put_wfFrom v (by omega) ha ht⟩

/-- A write keeps the canonical form. -/
theorem Memory.put_wf {m : List Host.Cell} {a : Nat} (v : Byte) (ha : a < 65536) (h : Memory.wf m = true) :
    Memory.wf (Memory.put m a v) = true :=
  Memory.put_wfFrom v (Nat.zero_le a) ha h

/-- Reading the address written gives the byte written. -/
theorem Memory.get_put_same {l a : Nat} (v : Byte) :
    ∀ {m : List Host.Cell}, Memory.wfFrom l m = true → Memory.get (Memory.put m a v) a = v
  | [], _ => by
    by_cases hv : v = Memory.unlisted <;> simp [Memory.put, Memory.get, hv]
  | (k, w) :: t, hm => by
    simp only [Memory.wfFrom, Bool.and_eq_true, decide_eq_true_eq] at hm
    unfold Memory.put
    split
    · rename_i hak
      split
      · rename_i hv
        have hk : a ≠ k := by omega
        simp only [Memory.get, if_neg hk, hv]
        exact Memory.get_below (by omega) hm.2
      · simp [Memory.get]
    · split
      · rename_i hak
        split
        · rename_i hv
          rw [hv]; exact Memory.get_below (by omega) hm.2
        · simp [Memory.get]
      · rename_i hak hne
        simp only [Memory.get, if_neg hne]
        exact Memory.get_put_same v hm.2

/-- Reading any other address gives what it gave before. -/
theorem Memory.get_put_other {a b : Nat} (v : Byte) (h : b ≠ a) :
    ∀ (m : List Host.Cell), Memory.get (Memory.put m a v) b = Memory.get m b
  | [] => by
    by_cases hv : v = Memory.unlisted <;> simp [Memory.put, Memory.get, hv, h]
  | (k, w) :: t => by
    unfold Memory.put
    split
    · split
      · rfl
      · simp [Memory.get, h]
    · split
      · rename_i hak
        subst hak
        split <;> simp [Memory.get, h]
      · simp only [Memory.get]
        rw [Memory.get_put_other v h t]

/-- Reset memory has the canonical form. -/
theorem State.reset_mem_wf : Memory.wf State.reset.mem = true := rfl

/-- What `State.write` does to memory: RAM stores the byte; any other address leaves memory as it is (R53). -/
theorem State.write_mem (a : Addr) (v : Byte) (s : State) :
    (s.write a v).mem = if kindAt s.plat a = .ram then Memory.put s.mem a.toNat v else s.mem := by
  unfold State.write
  split <;> simp_all

/-- `State.write` keeps the canonical form. -/
theorem State.write_mem_wf (a : Addr) (v : Byte) {s : State} (h : Memory.wf s.mem = true) :
    Memory.wf (s.write a v).mem = true := by
  rw [State.write_mem]
  split
  · exact Memory.put_wf v a.isLt h
  · exact h

/-- A write to RAM is read back (R53). -/
theorem State.byteAt_write_same {a : Addr} (v : Byte) {s : State} (hr : kindAt s.plat a = .ram)
    (h : Memory.wf s.mem = true) : (s.write a v).byteAt a = v := by
  unfold State.byteAt
  rw [State.write_mem, if_pos hr]
  exact Memory.get_put_same (l := 0) v h

/-- A write leaves every other address as it was (R53). -/
theorem State.byteAt_write_other {a b : Addr} (v : Byte) (h : b ≠ a) (s : State) :
    (s.write a v).byteAt b = s.byteAt b := by
  unfold State.byteAt
  rw [State.write_mem]
  split
  · exact Memory.get_put_other v (fun hn => h (BitVec.eq_of_toNat_eq hn)) s.mem
  · rfl

/-- A write leaves memory as it is where the platform has no RAM (R53). -/
theorem State.byteAt_write_noRam {a : Addr} (v : Byte) {s : State} (h : kindAt s.plat a ≠ .ram) (b : Addr) :
    (s.write a v).byteAt b = s.byteAt b := by
  unfold State.byteAt
  rw [State.write_mem, if_neg h]

/-- A read depends on the platform, the stored byte and the free value of its use only (R52). -/
theorem State.read_congr {d : Draw} {a : Addr} {s t : State} (hp : s.plat = t.plat) (hm : s.byteAt a = t.byteAt a)
    (hd : s.draws = t.draws) : s.read d a = t.read d a := by
  unfold State.read
  rw [hp, hm, hd]

/-- A push keeps the canonical form. -/
theorem State.push_mem_wf (v : Byte) {s : State} (h : Memory.wf s.mem = true) : Memory.wf (s.push v).mem = true := by
  rw [State.push_mem]; exact State.write_mem_wf _ v h

/-- A push leaves every stored byte as it was but the one at the stack address (R27). -/
theorem State.byteAt_push_other {b : Addr} (v : Byte) (s : State) (h : b ≠ stackAddr s.sp) :
    (s.push v).byteAt b = s.byteAt b :=
  State.byteAt_write_other v h s

/-- A push to RAM stores the byte (R27). -/
theorem State.byteAt_push_same (v : Byte) {s : State} (hr : kindAt s.plat (stackAddr s.sp) = .ram)
    (h : Memory.wf s.mem = true) : (s.push v).byteAt (stackAddr s.sp) = v :=
  State.byteAt_write_same v hr h

end Sys2Proof.Machine
end

