-- ==== Sys2Proof/Laws/Operations.lean ====
section
/-! SUPPORT. One lemma per shared operation that says once what it can do: the operand-access classes, taking an
exception and returning, the environment's input, and the CPU's choice at a boundary. -/

namespace Sys2Proof.Machine

/-- All that an instruction of class read can answer (R114). -/
theorem readClass_eq_next {src : Source} {f : Byte → State → State} {s t : State} :
    readClass src f s = .next t ↔ sourceBlocked src s = false ∧ t = (f (sourceValue src s) s).retire src.length := by
  unfold readClass
  cases sourceBlocked src s <;> simp [eq_comm]

/-- All that an instruction of class write can answer (R114). -/
theorem writeClass_eq_next {m : MemMode} {v : Byte} {s t : State} :
    writeClass m v s = .next t ↔
      discardedReadBlocked .write m s = false ∧ t = (s.write (effAddr m s) v).retire m.length := by
  unfold writeClass
  cases discardedReadBlocked .write m s <;> simp [eq_comm]

/-- All that an instruction of class read/modify/write can answer (R59, R114). -/
theorem rmwClass_eq_next {m : MemMode} {f : Byte → State → Byte × State} {s t : State} :
    rmwClass m f s = .next t ↔
      discardedReadBlocked .readModifyWrite m s = false ∧
        t = ((f (s.read .data (effAddr m s)) s).2.write (effAddr m s)
              (f (s.read .data (effAddr m s)) s).1).retire m.length := by
  unfold rmwClass
  cases discardedReadBlocked .readModifyWrite m s <;> simp [eq_comm]

/-- All that an unstable opcode can answer (R5, R230). -/
theorem byUnstableUse_eq_next {u : UnstableUse} {byRule byDraw : Result} {t : State} :
    byUnstableUse u byRule byDraw = .next t ↔ (u = .rule ∧ byRule = .next t) ∨ (u = .draw ∧ byDraw = .next t) := by
  cases u <;> simp [byUnstableUse]

/-- When an unstable opcode is refused (R5, R230). -/
theorem byUnstableUse_eq_refused {u : UnstableUse} {byRule byDraw : Result} {r : Refusal} :
    byUnstableUse u byRule byDraw = .refused r ↔
      (u = .refuse ∧ r = .unstableOpcode) ∨ (u = .rule ∧ byRule = .refused r) ∨ (u = .draw ∧ byDraw = .refused r) := by
  cases u <;> simp [byUnstableUse, eq_comm]

/-- All that an instruction in mode `A` can answer (R102). -/
theorem accumulatorClass_eq_next {f : Byte → State → Byte × State} {s t : State} :
    accumulatorClass f s = .next t ↔ t = { (f s.a s).2 with a := (f s.a s).1 }.retire 1 := by
  simp [accumulatorClass, eq_comm]

/-- All that an instruction in mode `-` that transfers no control can answer (R101). -/
theorem impliedClass_eq_next {f : State → State} {s t : State} :
    impliedClass f s = .next t ↔ t = (f s).retire 1 := by
  simp [impliedClass, eq_comm]

/-- All that a branch can answer (R150). -/
theorem branchIf_eq_next {cond : Bool} {b1 : Byte} {s t : State} :
    branchIf cond b1 s = .next t ↔ t = s.endAt (if cond then branchTarget b1 s else s.pc + 2) := by
  simp [branchIf, eq_comm]

/-- Only a memory mode with a 16-bit index can be refused (R58, D16). -/
theorem discardedReadBlocked_eq_false {c : AccessClass} {m : MemMode} {s : State}
    (h : ∀ a, readHasEffect a s = false) : discardedReadBlocked c m s = false := by
  unfold discardedReadBlocked
  split <;> simp only [h, Bool.false_or]
  all_goals (split <;> rfl)

/-- An immediate operand is never refused (R103). -/
@[simp] theorem sourceBlocked_immediate (b1 : Byte) (s : State) : sourceBlocked (.immediate b1) s = false := rfl

/-- What taking an exception does to every register (R262). -/
theorem interruptSequence_registers (ret vector : Addr) (b : Bool) (s : State) :
    let t := s.interruptSequence ret vector b
    t.a = s.a ∧ t.x = s.x ∧ t.y = s.y ∧ t.sp = s.sp - 1 - 1 - 1 ∧ t.p = { s.p with i := true } ∧
      t.halted = s.halted ∧ t.nmiPending = s.nmiPending ∧ t.iPrev = true ∧ t.irqLine = s.irqLine ∧
      t.resetLine = s.resetLine ∧ t.soLine = s.soLine ∧ t.plat = s.plat ∧ t.env = s.env ∧ t.during = s.during ∧
      t.draws = s.draws + 1 := by
  simp [State.interruptSequence]

/-- What taking an exception does to memory: the three pushes (R262). -/
theorem interruptSequence_mem (ret vector : Addr) (b : Bool) (s : State) :
    (s.interruptSequence ret vector b).mem = (((s.push (hi ret)).push (lo ret)).push (pImage b s.p)).mem := by
  simp [State.interruptSequence]

/-- Taking an exception keeps the canonical form. -/
theorem interruptSequence_mem_wf (ret vector : Addr) (b : Bool) {s : State} (h : Memory.wf s.mem = true) :
    Memory.wf (s.interruptSequence ret vector b).mem = true := by
  rw [interruptSequence_mem]
  exact State.push_mem_wf _ (State.push_mem_wf _ (State.push_mem_wf _ h))

/-- Placing a byte from outside keeps the canonical form. -/
theorem placeByte_mem_wf (a : Addr) (v : Byte) {s : State} (h : Memory.wf s.mem = true) :
    Memory.wf (placeByte a v s).mem = true := by
  unfold placeByte
  split <;> exact Memory.put_wf v a.isLt h

/-- Placing bytes from outside keeps the canonical form. -/
theorem placeBytes_mem_wf (a : Addr) (vs : List Byte) {s : State} (h : Memory.wf s.mem = true) :
    Memory.wf (placeBytes a vs s).mem = true := by
  induction vs generalizing a s with
  | nil => exact h
  | cons v vs ih => exact ih _ (placeByte_mem_wf a v h)

/-- A write to memory is the same state with another memory (R53). -/
theorem State.write_eq (a : Addr) (v : Byte) (s : State) : s.write a v = { s with mem := (s.write a v).mem } := by
  unfold State.write
  split <;> rfl

/-- What one environment event can change: the lines, the NMI latch and V (R260). -/
theorem applyEvent_frame (s : State) (e : EnvEvent) :
    ∃ n i r o v, s.applyEvent e = { s with nmiPending := n, irqLine := i, resetLine := r, soLine := o,
                                           p := { s.p with v := v } } := by
  cases e
  · exact ⟨s.nmiPending, _, s.resetLine, s.soLine, s.p.v, rfl⟩
  · exact ⟨_, s.irqLine, s.resetLine, s.soLine, s.p.v, rfl⟩
  · exact ⟨s.nmiPending, s.irqLine, _, s.soLine, s.p.v, rfl⟩
  · exact ⟨s.nmiPending, s.irqLine, s.resetLine, _, _, rfl⟩

/-- What a list of environment events can change (R260). -/
theorem foldl_applyEvent_frame (es : List EnvEvent) (s : State) :
    ∃ n i r o v, es.foldl State.applyEvent s = { s with nmiPending := n, irqLine := i, resetLine := r, soLine := o,
                                                        p := { s.p with v := v } } := by
  induction es generalizing s with
  | nil => exact ⟨s.nmiPending, s.irqLine, s.resetLine, s.soLine, s.p.v, rfl⟩
  | cons e es ih =>
    obtain ⟨n, i, r, o, v, he⟩ := applyEvent_frame s e
    obtain ⟨n', i', r', o', v', hs⟩ := ih (s.applyEvent e)
    exact ⟨n', i', r', o', v', by rw [List.foldl_cons, hs, he]⟩

/-- What the environment can change at a boundary: the lines, the NMI latch, V and the schedule (R260, R271). -/
theorem takeInput_frame (s : State) :
    ∃ n i r o v e d, s.takeInput = { s with nmiPending := n, irqLine := i, resetLine := r, soLine := o,
                                            p := { s.p with v := v }, env := e, during := d } := by
  unfold State.takeInput
  split
  · exact ⟨s.nmiPending, s.irqLine, s.resetLine, s.soLine, s.p.v, s.env, none, rfl⟩
  · rename_i e rest _
    obtain ⟨n, i, r, o, v, hs⟩ := foldl_applyEvent_frame e.before { s with env := rest }
    exact ⟨n, i, r, o, v, rest, e.during, by rw [hs]⟩

/-- With no schedule left, the environment does nothing. -/
theorem takeInput_of_env_nil {s : State} (h : s.env = []) : s.takeInput = { s with during := none } := by
  simp [State.takeInput, h]

/-- All that one CPU step can be (R260, R270, R278). -/
theorem cpuStep_cases (s : State) :
    (nextEvent s = .reset ∧ cpuStep s = .next s.resetSequence) ∨
    (nextEvent s = .halted ∧ cpuStep s = .next s) ∨
    (nextEvent s = .nmi ∧ cpuStep s = .next s.nmiEntry) ∨
    (nextEvent s = .irq ∧ cpuStep s = .next s.irqEntry) ∨
    (nextEvent s = .instruction ∧ cpuStep s = exec (fetch s) s) := by
  unfold cpuStep
  cases h : nextEvent s <;> simp

end Sys2Proof.Machine
end

