-- ==== Sys2Proof/Laws/PerInstr.lean ====
section
/-! SUPPORT. Statements for all instructions, proved one constructor at a time. -/

/-- The image of an instruction is 1 to 3 bytes, as many as its addressing mode says (30_encoding.md R80, R81). -/
def Sys2Proof.Laws.EncodedImage.Statement (i : Sys2Proof.Instr) : Prop :=
  Sys2Proof.wellFormedImage (Sys2Proof.encode i) = true ∧ (Sys2Proof.encode i).length = i.length

namespace Sys2Proof.Laws

theorem EncodedImage.brk : EncodedImage.Statement .brk := ⟨rfl, rfl⟩
theorem EncodedImage.oraIndX (b1 : Byte) : EncodedImage.Statement (.oraIndX b1) := ⟨rfl, rfl⟩
theorem EncodedImage.jam02 : EncodedImage.Statement .jam02 := ⟨rfl, rfl⟩
theorem EncodedImage.sloIndX (b1 : Byte) : EncodedImage.Statement (.sloIndX b1) := ⟨rfl, rfl⟩
theorem EncodedImage.nopZp04 (b1 : Byte) : EncodedImage.Statement (.nopZp04 b1) := ⟨rfl, rfl⟩
theorem EncodedImage.oraZp (b1 : Byte) : EncodedImage.Statement (.oraZp b1) := ⟨rfl, rfl⟩
theorem EncodedImage.aslZp (b1 : Byte) : EncodedImage.Statement (.aslZp b1) := ⟨rfl, rfl⟩
theorem EncodedImage.sloZp (b1 : Byte) : EncodedImage.Statement (.sloZp b1) := ⟨rfl, rfl⟩
theorem EncodedImage.php : EncodedImage.Statement .php := ⟨rfl, rfl⟩
theorem EncodedImage.oraImm (b1 : Byte) : EncodedImage.Statement (.oraImm b1) := ⟨rfl, rfl⟩
theorem EncodedImage.aslA : EncodedImage.Statement .aslA := ⟨rfl, rfl⟩
theorem EncodedImage.ancImm0B (b1 : Byte) : EncodedImage.Statement (.ancImm0B b1) := ⟨rfl, rfl⟩
theorem EncodedImage.nopAbs0C (b1 b2 : Byte) : EncodedImage.Statement (.nopAbs0C b1 b2) := ⟨rfl, rfl⟩
theorem EncodedImage.oraAbs (b1 b2 : Byte) : EncodedImage.Statement (.oraAbs b1 b2) := ⟨rfl, rfl⟩
theorem EncodedImage.aslAbs (b1 b2 : Byte) : EncodedImage.Statement (.aslAbs b1 b2) := ⟨rfl, rfl⟩
theorem EncodedImage.sloAbs (b1 b2 : Byte) : EncodedImage.Statement (.sloAbs b1 b2) := ⟨rfl, rfl⟩
theorem EncodedImage.bpl (b1 : Byte) : EncodedImage.Statement (.bpl b1) := ⟨rfl, rfl⟩
theorem EncodedImage.oraIndY (b1 : Byte) : EncodedImage.Statement (.oraIndY b1) := ⟨rfl, rfl⟩
theorem EncodedImage.jam12 : EncodedImage.Statement .jam12 := ⟨rfl, rfl⟩
theorem EncodedImage.sloIndY (b1 : Byte) : EncodedImage.Statement (.sloIndY b1) := ⟨rfl, rfl⟩
theorem EncodedImage.nopZpX14 (b1 : Byte) : EncodedImage.Statement (.nopZpX14 b1) := ⟨rfl, rfl⟩
theorem EncodedImage.oraZpX (b1 : Byte) : EncodedImage.Statement (.oraZpX b1) := ⟨rfl, rfl⟩
theorem EncodedImage.aslZpX (b1 : Byte) : EncodedImage.Statement (.aslZpX b1) := ⟨rfl, rfl⟩
theorem EncodedImage.sloZpX (b1 : Byte) : EncodedImage.Statement (.sloZpX b1) := ⟨rfl, rfl⟩
theorem EncodedImage.clc : EncodedImage.Statement .clc := ⟨rfl, rfl⟩
theorem EncodedImage.oraAbsY (b1 b2 : Byte) : EncodedImage.Statement (.oraAbsY b1 b2) := ⟨rfl, rfl⟩
theorem EncodedImage.nop1A : EncodedImage.Statement .nop1A := ⟨rfl, rfl⟩
theorem EncodedImage.sloAbsY (b1 b2 : Byte) : EncodedImage.Statement (.sloAbsY b1 b2) := ⟨rfl, rfl⟩
theorem EncodedImage.nopAbsX1C (b1 b2 : Byte) : EncodedImage.Statement (.nopAbsX1C b1 b2) := ⟨rfl, rfl⟩
theorem EncodedImage.oraAbsX (b1 b2 : Byte) : EncodedImage.Statement (.oraAbsX b1 b2) := ⟨rfl, rfl⟩
theorem EncodedImage.aslAbsX (b1 b2 : Byte) : EncodedImage.Statement (.aslAbsX b1 b2) := ⟨rfl, rfl⟩
theorem EncodedImage.sloAbsX (b1 b2 : Byte) : EncodedImage.Statement (.sloAbsX b1 b2) := ⟨rfl, rfl⟩
theorem EncodedImage.jsrAbs (b1 b2 : Byte) : EncodedImage.Statement (.jsrAbs b1 b2) := ⟨rfl, rfl⟩
theorem EncodedImage.andIndX (b1 : Byte) : EncodedImage.Statement (.andIndX b1) := ⟨rfl, rfl⟩
theorem EncodedImage.jam22 : EncodedImage.Statement .jam22 := ⟨rfl, rfl⟩
theorem EncodedImage.rlaIndX (b1 : Byte) : EncodedImage.Statement (.rlaIndX b1) := ⟨rfl, rfl⟩
theorem EncodedImage.bitZp (b1 : Byte) : EncodedImage.Statement (.bitZp b1) := ⟨rfl, rfl⟩
theorem EncodedImage.andZp (b1 : Byte) : EncodedImage.Statement (.andZp b1) := ⟨rfl, rfl⟩
theorem EncodedImage.rolZp (b1 : Byte) : EncodedImage.Statement (.rolZp b1) := ⟨rfl, rfl⟩
theorem EncodedImage.rlaZp (b1 : Byte) : EncodedImage.Statement (.rlaZp b1) := ⟨rfl, rfl⟩
theorem EncodedImage.plp : EncodedImage.Statement .plp := ⟨rfl, rfl⟩
theorem EncodedImage.andImm (b1 : Byte) : EncodedImage.Statement (.andImm b1) := ⟨rfl, rfl⟩
theorem EncodedImage.rolA : EncodedImage.Statement .rolA := ⟨rfl, rfl⟩
theorem EncodedImage.ancImm2B (b1 : Byte) : EncodedImage.Statement (.ancImm2B b1) := ⟨rfl, rfl⟩
theorem EncodedImage.bitAbs (b1 b2 : Byte) : EncodedImage.Statement (.bitAbs b1 b2) := ⟨rfl, rfl⟩
theorem EncodedImage.andAbs (b1 b2 : Byte) : EncodedImage.Statement (.andAbs b1 b2) := ⟨rfl, rfl⟩
theorem EncodedImage.rolAbs (b1 b2 : Byte) : EncodedImage.Statement (.rolAbs b1 b2) := ⟨rfl, rfl⟩
theorem EncodedImage.rlaAbs (b1 b2 : Byte) : EncodedImage.Statement (.rlaAbs b1 b2) := ⟨rfl, rfl⟩
theorem EncodedImage.bmi (b1 : Byte) : EncodedImage.Statement (.bmi b1) := ⟨rfl, rfl⟩
theorem EncodedImage.andIndY (b1 : Byte) : EncodedImage.Statement (.andIndY b1) := ⟨rfl, rfl⟩
theorem EncodedImage.jam32 : EncodedImage.Statement .jam32 := ⟨rfl, rfl⟩
theorem EncodedImage.rlaIndY (b1 : Byte) : EncodedImage.Statement (.rlaIndY b1) := ⟨rfl, rfl⟩
theorem EncodedImage.nopZpX34 (b1 : Byte) : EncodedImage.Statement (.nopZpX34 b1) := ⟨rfl, rfl⟩
theorem EncodedImage.andZpX (b1 : Byte) : EncodedImage.Statement (.andZpX b1) := ⟨rfl, rfl⟩
theorem EncodedImage.rolZpX (b1 : Byte) : EncodedImage.Statement (.rolZpX b1) := ⟨rfl, rfl⟩
theorem EncodedImage.rlaZpX (b1 : Byte) : EncodedImage.Statement (.rlaZpX b1) := ⟨rfl, rfl⟩
theorem EncodedImage.sec : EncodedImage.Statement .sec := ⟨rfl, rfl⟩
theorem EncodedImage.andAbsY (b1 b2 : Byte) : EncodedImage.Statement (.andAbsY b1 b2) := ⟨rfl, rfl⟩
theorem EncodedImage.nop3A : EncodedImage.Statement .nop3A := ⟨rfl, rfl⟩
theorem EncodedImage.rlaAbsY (b1 b2 : Byte) : EncodedImage.Statement (.rlaAbsY b1 b2) := ⟨rfl, rfl⟩
theorem EncodedImage.nopAbsX3C (b1 b2 : Byte) : EncodedImage.Statement (.nopAbsX3C b1 b2) := ⟨rfl, rfl⟩
theorem EncodedImage.andAbsX (b1 b2 : Byte) : EncodedImage.Statement (.andAbsX b1 b2) := ⟨rfl, rfl⟩
theorem EncodedImage.rolAbsX (b1 b2 : Byte) : EncodedImage.Statement (.rolAbsX b1 b2) := ⟨rfl, rfl⟩
theorem EncodedImage.rlaAbsX (b1 b2 : Byte) : EncodedImage.Statement (.rlaAbsX b1 b2) := ⟨rfl, rfl⟩
theorem EncodedImage.rti : EncodedImage.Statement .rti := ⟨rfl, rfl⟩
theorem EncodedImage.eorIndX (b1 : Byte) : EncodedImage.Statement (.eorIndX b1) := ⟨rfl, rfl⟩
theorem EncodedImage.jam42 : EncodedImage.Statement .jam42 := ⟨rfl, rfl⟩
theorem EncodedImage.sreIndX (b1 : Byte) : EncodedImage.Statement (.sreIndX b1) := ⟨rfl, rfl⟩
theorem EncodedImage.nopZp44 (b1 : Byte) : EncodedImage.Statement (.nopZp44 b1) := ⟨rfl, rfl⟩
theorem EncodedImage.eorZp (b1 : Byte) : EncodedImage.Statement (.eorZp b1) := ⟨rfl, rfl⟩
theorem EncodedImage.lsrZp (b1 : Byte) : EncodedImage.Statement (.lsrZp b1) := ⟨rfl, rfl⟩
theorem EncodedImage.sreZp (b1 : Byte) : EncodedImage.Statement (.sreZp b1) := ⟨rfl, rfl⟩
theorem EncodedImage.pha : EncodedImage.Statement .pha := ⟨rfl, rfl⟩
theorem EncodedImage.eorImm (b1 : Byte) : EncodedImage.Statement (.eorImm b1) := ⟨rfl, rfl⟩
theorem EncodedImage.lsrA : EncodedImage.Statement .lsrA := ⟨rfl, rfl⟩
theorem EncodedImage.asrImm (b1 : Byte) : EncodedImage.Statement (.asrImm b1) := ⟨rfl, rfl⟩
theorem EncodedImage.jmpAbs (b1 b2 : Byte) : EncodedImage.Statement (.jmpAbs b1 b2) := ⟨rfl, rfl⟩
theorem EncodedImage.eorAbs (b1 b2 : Byte) : EncodedImage.Statement (.eorAbs b1 b2) := ⟨rfl, rfl⟩
theorem EncodedImage.lsrAbs (b1 b2 : Byte) : EncodedImage.Statement (.lsrAbs b1 b2) := ⟨rfl, rfl⟩
theorem EncodedImage.sreAbs (b1 b2 : Byte) : EncodedImage.Statement (.sreAbs b1 b2) := ⟨rfl, rfl⟩
theorem EncodedImage.bvc (b1 : Byte) : EncodedImage.Statement (.bvc b1) := ⟨rfl, rfl⟩
theorem EncodedImage.eorIndY (b1 : Byte) : EncodedImage.Statement (.eorIndY b1) := ⟨rfl, rfl⟩
theorem EncodedImage.jam52 : EncodedImage.Statement .jam52 := ⟨rfl, rfl⟩
theorem EncodedImage.sreIndY (b1 : Byte) : EncodedImage.Statement (.sreIndY b1) := ⟨rfl, rfl⟩
theorem EncodedImage.nopZpX54 (b1 : Byte) : EncodedImage.Statement (.nopZpX54 b1) := ⟨rfl, rfl⟩
theorem EncodedImage.eorZpX (b1 : Byte) : EncodedImage.Statement (.eorZpX b1) := ⟨rfl, rfl⟩
theorem EncodedImage.lsrZpX (b1 : Byte) : EncodedImage.Statement (.lsrZpX b1) := ⟨rfl, rfl⟩
theorem EncodedImage.sreZpX (b1 : Byte) : EncodedImage.Statement (.sreZpX b1) := ⟨rfl, rfl⟩
theorem EncodedImage.cli : EncodedImage.Statement .cli := ⟨rfl, rfl⟩
theorem EncodedImage.eorAbsY (b1 b2 : Byte) : EncodedImage.Statement (.eorAbsY b1 b2) := ⟨rfl, rfl⟩
theorem EncodedImage.nop5A : EncodedImage.Statement .nop5A := ⟨rfl, rfl⟩
theorem EncodedImage.sreAbsY (b1 b2 : Byte) : EncodedImage.Statement (.sreAbsY b1 b2) := ⟨rfl, rfl⟩
theorem EncodedImage.nopAbsX5C (b1 b2 : Byte) : EncodedImage.Statement (.nopAbsX5C b1 b2) := ⟨rfl, rfl⟩
theorem EncodedImage.eorAbsX (b1 b2 : Byte) : EncodedImage.Statement (.eorAbsX b1 b2) := ⟨rfl, rfl⟩
theorem EncodedImage.lsrAbsX (b1 b2 : Byte) : EncodedImage.Statement (.lsrAbsX b1 b2) := ⟨rfl, rfl⟩
theorem EncodedImage.sreAbsX (b1 b2 : Byte) : EncodedImage.Statement (.sreAbsX b1 b2) := ⟨rfl, rfl⟩
theorem EncodedImage.rts : EncodedImage.Statement .rts := ⟨rfl, rfl⟩
theorem EncodedImage.adcIndX (b1 : Byte) : EncodedImage.Statement (.adcIndX b1) := ⟨rfl, rfl⟩
theorem EncodedImage.jam62 : EncodedImage.Statement .jam62 := ⟨rfl, rfl⟩
theorem EncodedImage.rraIndX (b1 : Byte) : EncodedImage.Statement (.rraIndX b1) := ⟨rfl, rfl⟩
theorem EncodedImage.nopZp64 (b1 : Byte) : EncodedImage.Statement (.nopZp64 b1) := ⟨rfl, rfl⟩
theorem EncodedImage.adcZp (b1 : Byte) : EncodedImage.Statement (.adcZp b1) := ⟨rfl, rfl⟩
theorem EncodedImage.rorZp (b1 : Byte) : EncodedImage.Statement (.rorZp b1) := ⟨rfl, rfl⟩
theorem EncodedImage.rraZp (b1 : Byte) : EncodedImage.Statement (.rraZp b1) := ⟨rfl, rfl⟩
theorem EncodedImage.pla : EncodedImage.Statement .pla := ⟨rfl, rfl⟩
theorem EncodedImage.adcImm (b1 : Byte) : EncodedImage.Statement (.adcImm b1) := ⟨rfl, rfl⟩
theorem EncodedImage.rorA : EncodedImage.Statement .rorA := ⟨rfl, rfl⟩
theorem EncodedImage.arrImm (b1 : Byte) : EncodedImage.Statement (.arrImm b1) := ⟨rfl, rfl⟩
theorem EncodedImage.jmpInd (b1 b2 : Byte) : EncodedImage.Statement (.jmpInd b1 b2) := ⟨rfl, rfl⟩
theorem EncodedImage.adcAbs (b1 b2 : Byte) : EncodedImage.Statement (.adcAbs b1 b2) := ⟨rfl, rfl⟩
theorem EncodedImage.rorAbs (b1 b2 : Byte) : EncodedImage.Statement (.rorAbs b1 b2) := ⟨rfl, rfl⟩
theorem EncodedImage.rraAbs (b1 b2 : Byte) : EncodedImage.Statement (.rraAbs b1 b2) := ⟨rfl, rfl⟩
theorem EncodedImage.bvs (b1 : Byte) : EncodedImage.Statement (.bvs b1) := ⟨rfl, rfl⟩
theorem EncodedImage.adcIndY (b1 : Byte) : EncodedImage.Statement (.adcIndY b1) := ⟨rfl, rfl⟩
theorem EncodedImage.jam72 : EncodedImage.Statement .jam72 := ⟨rfl, rfl⟩
theorem EncodedImage.rraIndY (b1 : Byte) : EncodedImage.Statement (.rraIndY b1) := ⟨rfl, rfl⟩
theorem EncodedImage.nopZpX74 (b1 : Byte) : EncodedImage.Statement (.nopZpX74 b1) := ⟨rfl, rfl⟩
theorem EncodedImage.adcZpX (b1 : Byte) : EncodedImage.Statement (.adcZpX b1) := ⟨rfl, rfl⟩
theorem EncodedImage.rorZpX (b1 : Byte) : EncodedImage.Statement (.rorZpX b1) := ⟨rfl, rfl⟩
theorem EncodedImage.rraZpX (b1 : Byte) : EncodedImage.Statement (.rraZpX b1) := ⟨rfl, rfl⟩
theorem EncodedImage.sei : EncodedImage.Statement .sei := ⟨rfl, rfl⟩
theorem EncodedImage.adcAbsY (b1 b2 : Byte) : EncodedImage.Statement (.adcAbsY b1 b2) := ⟨rfl, rfl⟩
theorem EncodedImage.nop7A : EncodedImage.Statement .nop7A := ⟨rfl, rfl⟩
theorem EncodedImage.rraAbsY (b1 b2 : Byte) : EncodedImage.Statement (.rraAbsY b1 b2) := ⟨rfl, rfl⟩
theorem EncodedImage.nopAbsX7C (b1 b2 : Byte) : EncodedImage.Statement (.nopAbsX7C b1 b2) := ⟨rfl, rfl⟩
theorem EncodedImage.adcAbsX (b1 b2 : Byte) : EncodedImage.Statement (.adcAbsX b1 b2) := ⟨rfl, rfl⟩
theorem EncodedImage.rorAbsX (b1 b2 : Byte) : EncodedImage.Statement (.rorAbsX b1 b2) := ⟨rfl, rfl⟩
theorem EncodedImage.rraAbsX (b1 b2 : Byte) : EncodedImage.Statement (.rraAbsX b1 b2) := ⟨rfl, rfl⟩
theorem EncodedImage.nopImm80 (b1 : Byte) : EncodedImage.Statement (.nopImm80 b1) := ⟨rfl, rfl⟩
theorem EncodedImage.staIndX (b1 : Byte) : EncodedImage.Statement (.staIndX b1) := ⟨rfl, rfl⟩
theorem EncodedImage.nopImm82 (b1 : Byte) : EncodedImage.Statement (.nopImm82 b1) := ⟨rfl, rfl⟩
theorem EncodedImage.saxIndX (b1 : Byte) : EncodedImage.Statement (.saxIndX b1) := ⟨rfl, rfl⟩
theorem EncodedImage.styZp (b1 : Byte) : EncodedImage.Statement (.styZp b1) := ⟨rfl, rfl⟩
theorem EncodedImage.staZp (b1 : Byte) : EncodedImage.Statement (.staZp b1) := ⟨rfl, rfl⟩
theorem EncodedImage.stxZp (b1 : Byte) : EncodedImage.Statement (.stxZp b1) := ⟨rfl, rfl⟩
theorem EncodedImage.saxZp (b1 : Byte) : EncodedImage.Statement (.saxZp b1) := ⟨rfl, rfl⟩
theorem EncodedImage.dey : EncodedImage.Statement .dey := ⟨rfl, rfl⟩
theorem EncodedImage.nopImm89 (b1 : Byte) : EncodedImage.Statement (.nopImm89 b1) := ⟨rfl, rfl⟩
theorem EncodedImage.txa : EncodedImage.Statement .txa := ⟨rfl, rfl⟩
theorem EncodedImage.xaaImm (b1 : Byte) : EncodedImage.Statement (.xaaImm b1) := ⟨rfl, rfl⟩
theorem EncodedImage.styAbs (b1 b2 : Byte) : EncodedImage.Statement (.styAbs b1 b2) := ⟨rfl, rfl⟩
theorem EncodedImage.staAbs (b1 b2 : Byte) : EncodedImage.Statement (.staAbs b1 b2) := ⟨rfl, rfl⟩
theorem EncodedImage.stxAbs (b1 b2 : Byte) : EncodedImage.Statement (.stxAbs b1 b2) := ⟨rfl, rfl⟩
theorem EncodedImage.saxAbs (b1 b2 : Byte) : EncodedImage.Statement (.saxAbs b1 b2) := ⟨rfl, rfl⟩
theorem EncodedImage.bcc (b1 : Byte) : EncodedImage.Statement (.bcc b1) := ⟨rfl, rfl⟩
theorem EncodedImage.staIndY (b1 : Byte) : EncodedImage.Statement (.staIndY b1) := ⟨rfl, rfl⟩
theorem EncodedImage.jam92 : EncodedImage.Statement .jam92 := ⟨rfl, rfl⟩
theorem EncodedImage.shaIndY (b1 : Byte) : EncodedImage.Statement (.shaIndY b1) := ⟨rfl, rfl⟩
theorem EncodedImage.styZpX (b1 : Byte) : EncodedImage.Statement (.styZpX b1) := ⟨rfl, rfl⟩
theorem EncodedImage.staZpX (b1 : Byte) : EncodedImage.Statement (.staZpX b1) := ⟨rfl, rfl⟩
theorem EncodedImage.stxZpY (b1 : Byte) : EncodedImage.Statement (.stxZpY b1) := ⟨rfl, rfl⟩
theorem EncodedImage.saxZpY (b1 : Byte) : EncodedImage.Statement (.saxZpY b1) := ⟨rfl, rfl⟩
theorem EncodedImage.tya : EncodedImage.Statement .tya := ⟨rfl, rfl⟩
theorem EncodedImage.staAbsY (b1 b2 : Byte) : EncodedImage.Statement (.staAbsY b1 b2) := ⟨rfl, rfl⟩
theorem EncodedImage.txs : EncodedImage.Statement .txs := ⟨rfl, rfl⟩
theorem EncodedImage.shsAbsY (b1 b2 : Byte) : EncodedImage.Statement (.shsAbsY b1 b2) := ⟨rfl, rfl⟩
theorem EncodedImage.shyAbsX (b1 b2 : Byte) : EncodedImage.Statement (.shyAbsX b1 b2) := ⟨rfl, rfl⟩
theorem EncodedImage.staAbsX (b1 b2 : Byte) : EncodedImage.Statement (.staAbsX b1 b2) := ⟨rfl, rfl⟩
theorem EncodedImage.shxAbsY (b1 b2 : Byte) : EncodedImage.Statement (.shxAbsY b1 b2) := ⟨rfl, rfl⟩
theorem EncodedImage.shaAbsY (b1 b2 : Byte) : EncodedImage.Statement (.shaAbsY b1 b2) := ⟨rfl, rfl⟩
theorem EncodedImage.ldyImm (b1 : Byte) : EncodedImage.Statement (.ldyImm b1) := ⟨rfl, rfl⟩
theorem EncodedImage.ldaIndX (b1 : Byte) : EncodedImage.Statement (.ldaIndX b1) := ⟨rfl, rfl⟩
theorem EncodedImage.ldxImm (b1 : Byte) : EncodedImage.Statement (.ldxImm b1) := ⟨rfl, rfl⟩
theorem EncodedImage.laxIndX (b1 : Byte) : EncodedImage.Statement (.laxIndX b1) := ⟨rfl, rfl⟩
theorem EncodedImage.ldyZp (b1 : Byte) : EncodedImage.Statement (.ldyZp b1) := ⟨rfl, rfl⟩
theorem EncodedImage.ldaZp (b1 : Byte) : EncodedImage.Statement (.ldaZp b1) := ⟨rfl, rfl⟩
theorem EncodedImage.ldxZp (b1 : Byte) : EncodedImage.Statement (.ldxZp b1) := ⟨rfl, rfl⟩
theorem EncodedImage.laxZp (b1 : Byte) : EncodedImage.Statement (.laxZp b1) := ⟨rfl, rfl⟩
theorem EncodedImage.tay : EncodedImage.Statement .tay := ⟨rfl, rfl⟩
theorem EncodedImage.ldaImm (b1 : Byte) : EncodedImage.Statement (.ldaImm b1) := ⟨rfl, rfl⟩
theorem EncodedImage.tax : EncodedImage.Statement .tax := ⟨rfl, rfl⟩
theorem EncodedImage.laxImm (b1 : Byte) : EncodedImage.Statement (.laxImm b1) := ⟨rfl, rfl⟩
theorem EncodedImage.ldyAbs (b1 b2 : Byte) : EncodedImage.Statement (.ldyAbs b1 b2) := ⟨rfl, rfl⟩
theorem EncodedImage.ldaAbs (b1 b2 : Byte) : EncodedImage.Statement (.ldaAbs b1 b2) := ⟨rfl, rfl⟩
theorem EncodedImage.ldxAbs (b1 b2 : Byte) : EncodedImage.Statement (.ldxAbs b1 b2) := ⟨rfl, rfl⟩
theorem EncodedImage.laxAbs (b1 b2 : Byte) : EncodedImage.Statement (.laxAbs b1 b2) := ⟨rfl, rfl⟩
theorem EncodedImage.bcs (b1 : Byte) : EncodedImage.Statement (.bcs b1) := ⟨rfl, rfl⟩
theorem EncodedImage.ldaIndY (b1 : Byte) : EncodedImage.Statement (.ldaIndY b1) := ⟨rfl, rfl⟩
theorem EncodedImage.jamB2 : EncodedImage.Statement .jamB2 := ⟨rfl, rfl⟩
theorem EncodedImage.laxIndY (b1 : Byte) : EncodedImage.Statement (.laxIndY b1) := ⟨rfl, rfl⟩
theorem EncodedImage.ldyZpX (b1 : Byte) : EncodedImage.Statement (.ldyZpX b1) := ⟨rfl, rfl⟩
theorem EncodedImage.ldaZpX (b1 : Byte) : EncodedImage.Statement (.ldaZpX b1) := ⟨rfl, rfl⟩
theorem EncodedImage.ldxZpY (b1 : Byte) : EncodedImage.Statement (.ldxZpY b1) := ⟨rfl, rfl⟩
theorem EncodedImage.laxZpY (b1 : Byte) : EncodedImage.Statement (.laxZpY b1) := ⟨rfl, rfl⟩
theorem EncodedImage.clv : EncodedImage.Statement .clv := ⟨rfl, rfl⟩
theorem EncodedImage.ldaAbsY (b1 b2 : Byte) : EncodedImage.Statement (.ldaAbsY b1 b2) := ⟨rfl, rfl⟩
theorem EncodedImage.tsx : EncodedImage.Statement .tsx := ⟨rfl, rfl⟩
theorem EncodedImage.lasAbsY (b1 b2 : Byte) : EncodedImage.Statement (.lasAbsY b1 b2) := ⟨rfl, rfl⟩
theorem EncodedImage.ldyAbsX (b1 b2 : Byte) : EncodedImage.Statement (.ldyAbsX b1 b2) := ⟨rfl, rfl⟩
theorem EncodedImage.ldaAbsX (b1 b2 : Byte) : EncodedImage.Statement (.ldaAbsX b1 b2) := ⟨rfl, rfl⟩
theorem EncodedImage.ldxAbsY (b1 b2 : Byte) : EncodedImage.Statement (.ldxAbsY b1 b2) := ⟨rfl, rfl⟩
theorem EncodedImage.laxAbsY (b1 b2 : Byte) : EncodedImage.Statement (.laxAbsY b1 b2) := ⟨rfl, rfl⟩
theorem EncodedImage.cpyImm (b1 : Byte) : EncodedImage.Statement (.cpyImm b1) := ⟨rfl, rfl⟩
theorem EncodedImage.cmpIndX (b1 : Byte) : EncodedImage.Statement (.cmpIndX b1) := ⟨rfl, rfl⟩
theorem EncodedImage.nopImmC2 (b1 : Byte) : EncodedImage.Statement (.nopImmC2 b1) := ⟨rfl, rfl⟩
theorem EncodedImage.dcpIndX (b1 : Byte) : EncodedImage.Statement (.dcpIndX b1) := ⟨rfl, rfl⟩
theorem EncodedImage.cpyZp (b1 : Byte) : EncodedImage.Statement (.cpyZp b1) := ⟨rfl, rfl⟩
theorem EncodedImage.cmpZp (b1 : Byte) : EncodedImage.Statement (.cmpZp b1) := ⟨rfl, rfl⟩
theorem EncodedImage.decZp (b1 : Byte) : EncodedImage.Statement (.decZp b1) := ⟨rfl, rfl⟩
theorem EncodedImage.dcpZp (b1 : Byte) : EncodedImage.Statement (.dcpZp b1) := ⟨rfl, rfl⟩
theorem EncodedImage.iny : EncodedImage.Statement .iny := ⟨rfl, rfl⟩
theorem EncodedImage.cmpImm (b1 : Byte) : EncodedImage.Statement (.cmpImm b1) := ⟨rfl, rfl⟩
theorem EncodedImage.dex : EncodedImage.Statement .dex := ⟨rfl, rfl⟩
theorem EncodedImage.sbxImm (b1 : Byte) : EncodedImage.Statement (.sbxImm b1) := ⟨rfl, rfl⟩
theorem EncodedImage.cpyAbs (b1 b2 : Byte) : EncodedImage.Statement (.cpyAbs b1 b2) := ⟨rfl, rfl⟩
theorem EncodedImage.cmpAbs (b1 b2 : Byte) : EncodedImage.Statement (.cmpAbs b1 b2) := ⟨rfl, rfl⟩
theorem EncodedImage.decAbs (b1 b2 : Byte) : EncodedImage.Statement (.decAbs b1 b2) := ⟨rfl, rfl⟩
theorem EncodedImage.dcpAbs (b1 b2 : Byte) : EncodedImage.Statement (.dcpAbs b1 b2) := ⟨rfl, rfl⟩
theorem EncodedImage.bne (b1 : Byte) : EncodedImage.Statement (.bne b1) := ⟨rfl, rfl⟩
theorem EncodedImage.cmpIndY (b1 : Byte) : EncodedImage.Statement (.cmpIndY b1) := ⟨rfl, rfl⟩
theorem EncodedImage.jamD2 : EncodedImage.Statement .jamD2 := ⟨rfl, rfl⟩
theorem EncodedImage.dcpIndY (b1 : Byte) : EncodedImage.Statement (.dcpIndY b1) := ⟨rfl, rfl⟩
theorem EncodedImage.nopZpXD4 (b1 : Byte) : EncodedImage.Statement (.nopZpXD4 b1) := ⟨rfl, rfl⟩
theorem EncodedImage.cmpZpX (b1 : Byte) : EncodedImage.Statement (.cmpZpX b1) := ⟨rfl, rfl⟩
theorem EncodedImage.decZpX (b1 : Byte) : EncodedImage.Statement (.decZpX b1) := ⟨rfl, rfl⟩
theorem EncodedImage.dcpZpX (b1 : Byte) : EncodedImage.Statement (.dcpZpX b1) := ⟨rfl, rfl⟩
theorem EncodedImage.cld : EncodedImage.Statement .cld := ⟨rfl, rfl⟩
theorem EncodedImage.cmpAbsY (b1 b2 : Byte) : EncodedImage.Statement (.cmpAbsY b1 b2) := ⟨rfl, rfl⟩
theorem EncodedImage.nopDA : EncodedImage.Statement .nopDA := ⟨rfl, rfl⟩
theorem EncodedImage.dcpAbsY (b1 b2 : Byte) : EncodedImage.Statement (.dcpAbsY b1 b2) := ⟨rfl, rfl⟩
theorem EncodedImage.nopAbsXDC (b1 b2 : Byte) : EncodedImage.Statement (.nopAbsXDC b1 b2) := ⟨rfl, rfl⟩
theorem EncodedImage.cmpAbsX (b1 b2 : Byte) : EncodedImage.Statement (.cmpAbsX b1 b2) := ⟨rfl, rfl⟩
theorem EncodedImage.decAbsX (b1 b2 : Byte) : EncodedImage.Statement (.decAbsX b1 b2) := ⟨rfl, rfl⟩
theorem EncodedImage.dcpAbsX (b1 b2 : Byte) : EncodedImage.Statement (.dcpAbsX b1 b2) := ⟨rfl, rfl⟩
theorem EncodedImage.cpxImm (b1 : Byte) : EncodedImage.Statement (.cpxImm b1) := ⟨rfl, rfl⟩
theorem EncodedImage.sbcIndX (b1 : Byte) : EncodedImage.Statement (.sbcIndX b1) := ⟨rfl, rfl⟩
theorem EncodedImage.nopImmE2 (b1 : Byte) : EncodedImage.Statement (.nopImmE2 b1) := ⟨rfl, rfl⟩
theorem EncodedImage.iscIndX (b1 : Byte) : EncodedImage.Statement (.iscIndX b1) := ⟨rfl, rfl⟩
theorem EncodedImage.cpxZp (b1 : Byte) : EncodedImage.Statement (.cpxZp b1) := ⟨rfl, rfl⟩
theorem EncodedImage.sbcZp (b1 : Byte) : EncodedImage.Statement (.sbcZp b1) := ⟨rfl, rfl⟩
theorem EncodedImage.incZp (b1 : Byte) : EncodedImage.Statement (.incZp b1) := ⟨rfl, rfl⟩
theorem EncodedImage.iscZp (b1 : Byte) : EncodedImage.Statement (.iscZp b1) := ⟨rfl, rfl⟩
theorem EncodedImage.inx : EncodedImage.Statement .inx := ⟨rfl, rfl⟩
theorem EncodedImage.sbcImm (b1 : Byte) : EncodedImage.Statement (.sbcImm b1) := ⟨rfl, rfl⟩
theorem EncodedImage.nop : EncodedImage.Statement .nop := ⟨rfl, rfl⟩
theorem EncodedImage.sbcImmEB (b1 : Byte) : EncodedImage.Statement (.sbcImmEB b1) := ⟨rfl, rfl⟩
theorem EncodedImage.cpxAbs (b1 b2 : Byte) : EncodedImage.Statement (.cpxAbs b1 b2) := ⟨rfl, rfl⟩
theorem EncodedImage.sbcAbs (b1 b2 : Byte) : EncodedImage.Statement (.sbcAbs b1 b2) := ⟨rfl, rfl⟩
theorem EncodedImage.incAbs (b1 b2 : Byte) : EncodedImage.Statement (.incAbs b1 b2) := ⟨rfl, rfl⟩
theorem EncodedImage.iscAbs (b1 b2 : Byte) : EncodedImage.Statement (.iscAbs b1 b2) := ⟨rfl, rfl⟩
theorem EncodedImage.beq (b1 : Byte) : EncodedImage.Statement (.beq b1) := ⟨rfl, rfl⟩
theorem EncodedImage.sbcIndY (b1 : Byte) : EncodedImage.Statement (.sbcIndY b1) := ⟨rfl, rfl⟩
theorem EncodedImage.jamF2 : EncodedImage.Statement .jamF2 := ⟨rfl, rfl⟩
theorem EncodedImage.iscIndY (b1 : Byte) : EncodedImage.Statement (.iscIndY b1) := ⟨rfl, rfl⟩
theorem EncodedImage.nopZpXF4 (b1 : Byte) : EncodedImage.Statement (.nopZpXF4 b1) := ⟨rfl, rfl⟩
theorem EncodedImage.sbcZpX (b1 : Byte) : EncodedImage.Statement (.sbcZpX b1) := ⟨rfl, rfl⟩
theorem EncodedImage.incZpX (b1 : Byte) : EncodedImage.Statement (.incZpX b1) := ⟨rfl, rfl⟩
theorem EncodedImage.iscZpX (b1 : Byte) : EncodedImage.Statement (.iscZpX b1) := ⟨rfl, rfl⟩
theorem EncodedImage.sed : EncodedImage.Statement .sed := ⟨rfl, rfl⟩
theorem EncodedImage.sbcAbsY (b1 b2 : Byte) : EncodedImage.Statement (.sbcAbsY b1 b2) := ⟨rfl, rfl⟩
theorem EncodedImage.nopFA : EncodedImage.Statement .nopFA := ⟨rfl, rfl⟩
theorem EncodedImage.iscAbsY (b1 b2 : Byte) : EncodedImage.Statement (.iscAbsY b1 b2) := ⟨rfl, rfl⟩
theorem EncodedImage.nopAbsXFC (b1 b2 : Byte) : EncodedImage.Statement (.nopAbsXFC b1 b2) := ⟨rfl, rfl⟩
theorem EncodedImage.sbcAbsX (b1 b2 : Byte) : EncodedImage.Statement (.sbcAbsX b1 b2) := ⟨rfl, rfl⟩
theorem EncodedImage.incAbsX (b1 b2 : Byte) : EncodedImage.Statement (.incAbsX b1 b2) := ⟨rfl, rfl⟩
theorem EncodedImage.iscAbsX (b1 b2 : Byte) : EncodedImage.Statement (.iscAbsX b1 b2) := ⟨rfl, rfl⟩

end Sys2Proof.Laws
end

