-- ==== Sys2Proof/Machine/Assembler.lean ====
section
/-! DEFINITION. The assembler text of an instruction (30_encoding.md R92, R94): mnemonic, a space, operand. Nothing
the machine does depends on it; directives and expressions are out of the spec's scope (00_scope.md R3, log 25). -/

namespace Sys2Proof.Machine

/-- The letters of a mnemonic; `*NOP` and `*SBC` are written as NOP and SBC (R88, R93). -/
def mnemonicText : Mnemonic → String
  | .adc => "ADC"
  | .anc => "ANC"
  | .and => "AND"
  | .arr => "ARR"
  | .asl => "ASL"
  | .asr => "ASR"
  | .bcc => "BCC"
  | .bcs => "BCS"
  | .beq => "BEQ"
  | .bit => "BIT"
  | .bmi => "BMI"
  | .bne => "BNE"
  | .bpl => "BPL"
  | .brk => "BRK"
  | .bvc => "BVC"
  | .bvs => "BVS"
  | .clc => "CLC"
  | .cld => "CLD"
  | .cli => "CLI"
  | .clv => "CLV"
  | .cmp => "CMP"
  | .cpx => "CPX"
  | .cpy => "CPY"
  | .dcp => "DCP"
  | .dec => "DEC"
  | .dex => "DEX"
  | .dey => "DEY"
  | .eor => "EOR"
  | .inc => "INC"
  | .inx => "INX"
  | .iny => "INY"
  | .isc => "ISC"
  | .jam => "JAM"
  | .jmp => "JMP"
  | .jsr => "JSR"
  | .las => "LAS"
  | .lax => "LAX"
  | .lda => "LDA"
  | .ldx => "LDX"
  | .ldy => "LDY"
  | .lsr => "LSR"
  | .nop => "NOP"
  | .nopUndoc => "NOP"
  | .ora => "ORA"
  | .pha => "PHA"
  | .php => "PHP"
  | .pla => "PLA"
  | .plp => "PLP"
  | .rla => "RLA"
  | .rol => "ROL"
  | .ror => "ROR"
  | .rra => "RRA"
  | .rti => "RTI"
  | .rts => "RTS"
  | .sax => "SAX"
  | .sbc => "SBC"
  | .sbcUndoc => "SBC"
  | .sbx => "SBX"
  | .sec => "SEC"
  | .sed => "SED"
  | .sei => "SEI"
  | .sha => "SHA"
  | .shs => "SHS"
  | .shx => "SHX"
  | .shy => "SHY"
  | .slo => "SLO"
  | .sre => "SRE"
  | .sta => "STA"
  | .stx => "STX"
  | .sty => "STY"
  | .tax => "TAX"
  | .tay => "TAY"
  | .tsx => "TSX"
  | .txa => "TXA"
  | .txs => "TXS"
  | .tya => "TYA"
  | .xaa => "XAA"

/-- The upper-case hexadecimal digit of a number below 16. -/
def hexDigit (n : Nat) : String := ("0123456789ABCDEF".toList.getD n '0').toString

/-- A byte as two hexadecimal digits, the `nn` of R92. -/
def hexByte (b : Byte) : String := hexDigit (b.toNat / 16) ++ hexDigit (b.toNat % 16)

/-- A 16-bit value as four hexadecimal digits, the `nnnn` of R92. -/
def hexAddr (w : Addr) : String := hexByte (hi w) ++ hexByte (lo w)

/-- The operand syntax of a memory mode (R81, R92). -/
def memModeText : MemMode → String
  | .zp b1 => "$" ++ hexByte b1
  | .zpX b1 => "$" ++ hexByte b1 ++ ",X"
  | .zpY b1 => "$" ++ hexByte b1 ++ ",Y"
  | .indX b1 => "($" ++ hexByte b1 ++ ",X)"
  | .indY b1 => "($" ++ hexByte b1 ++ "),Y"
  | .abs b1 b2 => "$" ++ hexAddr (join b2 b1)
  | .absX b1 b2 => "$" ++ hexAddr (join b2 b1) ++ ",X"
  | .absY b1 b2 => "$" ++ hexAddr (join b2 b1) ++ ",Y"

/-- The assembler text of an instruction that stands at `pc0`; a branch is written with its target address (R92). -/
def assemblerText (pc0 : Addr) (i : Instr) : String :=
  let m := mnemonicText i.mnemonic
  match i.operand with
  | .implied => m
  | .accumulator => m ++ " A"
  | .immediate b1 => m ++ " #$" ++ hexByte b1
  | .memory mode => m ++ " " ++ memModeText mode
  | .indirect b1 b2 => m ++ " ($" ++ hexAddr (join b2 b1) ++ ")"
  | .relative b1 => m ++ " $" ++ hexAddr (pc0 + 2 + sext b1)

/-- The offset byte that an assembler computes for a branch at `pc0` to `target`, when the target is within -128 to
+127 of the next instruction (R92). -/
def branchOffset (pc0 target : Addr) : Option Byte :=
  let d := target - (pc0 + 2)
  if sext (lo d) = d then some (lo d) else none

/-- The other names in use for undocumented mnemonics (R94). -/
def mnemonicAliases : List (Mnemonic × List String) := [
  (.asr, ["ALR"]),
  (.dcp, ["DCM"]),
  (.isc, ["INS", "ISB"]),
  (.jam, ["HLT", "KIL"]),
  (.sbx, ["AXS"]),
  (.sha, ["AHX"]),
  (.shs, ["TAS"]),
  (.slo, ["ASO"]),
  (.sre, ["LSE"]),
  (.xaa, ["ANE"])]

end Sys2Proof.Machine
end

