-- ==== Sys2Proof/Tests/Slice0.lean ====
section
/-! SUPPORT. The model's own tests. Expected values come from the spec: the opcode map (30_encoding.md R88), the test
vectors of 95_test_vectors.md (section named in each comment) and the instruction rules' examples. -/

namespace Sys2Proof.Tests

open Sys2Proof.Machine

/-! ### WellFormed: an ill-formed term for each check -/

theorem test_image_empty_refused : wellFormedImage [] = false := by decide
theorem test_image_too_long_refused : wellFormedImage [0xAD, 0x34, 0x12, 0x00] = false := by decide
theorem test_region_reversed_refused : Region.wellFormed ⟨0x0200, 0x01FF, .ram⟩ = false := by decide
theorem test_region_outside_refused : Region.wellFormed ⟨0xFF00, 0x10000, .rom⟩ = false := by decide
theorem test_platform_with_bad_region_refused :
    Platform.wellFormed ⟨[⟨0, 0x7FFF, .ram⟩, ⟨0x8000, 0x10000, .rom⟩], false, .byRule⟩ = false := by decide
theorem test_instruction_wellFormed : Instr.wellFormed .jam02 = true := by decide

/-! ### Decode: every opcode byte, with operand bytes 12 and 34 (R80, R88) -/

theorem test_decode_no_opcode : decode [] = .error .noOpcode := by decide
theorem test_decode_missing_operand : decode [0xAD, 0x34] = .error .missingOperand := by decide
theorem test_decode_rest : decode [0xA9, 0x80, 0xEA] = .ok (.ldaImm 0x80, [0xEA]) := by decide

theorem test_decode_row0 :
    decodeTableWord 8 0x00 = some .brk ∧
    decodeTableWord 16 0x1201 = some (.oraIndX 0x12) ∧
    decodeTableWord 8 0x02 = some .jam02 ∧
    decodeTableWord 16 0x1203 = some (.sloIndX 0x12) ∧
    decodeTableWord 16 0x1204 = some (.nopZp04 0x12) ∧
    decodeTableWord 16 0x1205 = some (.oraZp 0x12) ∧
    decodeTableWord 16 0x1206 = some (.aslZp 0x12) ∧
    decodeTableWord 16 0x1207 = some (.sloZp 0x12) ∧
    decodeTableWord 8 0x08 = some .php ∧
    decodeTableWord 16 0x1209 = some (.oraImm 0x12) ∧
    decodeTableWord 8 0x0A = some .aslA ∧
    decodeTableWord 16 0x120B = some (.ancImm0B 0x12) ∧
    decodeTableWord 24 0x34120C = some (.nopAbs0C 0x12 0x34) ∧
    decodeTableWord 24 0x34120D = some (.oraAbs 0x12 0x34) ∧
    decodeTableWord 24 0x34120E = some (.aslAbs 0x12 0x34) ∧
    decodeTableWord 24 0x34120F = some (.sloAbs 0x12 0x34) := by decide

theorem test_decode_row1 :
    decodeTableWord 16 0x1210 = some (.bpl 0x12) ∧
    decodeTableWord 16 0x1211 = some (.oraIndY 0x12) ∧
    decodeTableWord 8 0x12 = some .jam12 ∧
    decodeTableWord 16 0x1213 = some (.sloIndY 0x12) ∧
    decodeTableWord 16 0x1214 = some (.nopZpX14 0x12) ∧
    decodeTableWord 16 0x1215 = some (.oraZpX 0x12) ∧
    decodeTableWord 16 0x1216 = some (.aslZpX 0x12) ∧
    decodeTableWord 16 0x1217 = some (.sloZpX 0x12) ∧
    decodeTableWord 8 0x18 = some .clc ∧
    decodeTableWord 24 0x341219 = some (.oraAbsY 0x12 0x34) ∧
    decodeTableWord 8 0x1A = some .nop1A ∧
    decodeTableWord 24 0x34121B = some (.sloAbsY 0x12 0x34) ∧
    decodeTableWord 24 0x34121C = some (.nopAbsX1C 0x12 0x34) ∧
    decodeTableWord 24 0x34121D = some (.oraAbsX 0x12 0x34) ∧
    decodeTableWord 24 0x34121E = some (.aslAbsX 0x12 0x34) ∧
    decodeTableWord 24 0x34121F = some (.sloAbsX 0x12 0x34) := by decide

theorem test_decode_row2 :
    decodeTableWord 24 0x341220 = some (.jsrAbs 0x12 0x34) ∧
    decodeTableWord 16 0x1221 = some (.andIndX 0x12) ∧
    decodeTableWord 8 0x22 = some .jam22 ∧
    decodeTableWord 16 0x1223 = some (.rlaIndX 0x12) ∧
    decodeTableWord 16 0x1224 = some (.bitZp 0x12) ∧
    decodeTableWord 16 0x1225 = some (.andZp 0x12) ∧
    decodeTableWord 16 0x1226 = some (.rolZp 0x12) ∧
    decodeTableWord 16 0x1227 = some (.rlaZp 0x12) ∧
    decodeTableWord 8 0x28 = some .plp ∧
    decodeTableWord 16 0x1229 = some (.andImm 0x12) ∧
    decodeTableWord 8 0x2A = some .rolA ∧
    decodeTableWord 16 0x122B = some (.ancImm2B 0x12) ∧
    decodeTableWord 24 0x34122C = some (.bitAbs 0x12 0x34) ∧
    decodeTableWord 24 0x34122D = some (.andAbs 0x12 0x34) ∧
    decodeTableWord 24 0x34122E = some (.rolAbs 0x12 0x34) ∧
    decodeTableWord 24 0x34122F = some (.rlaAbs 0x12 0x34) := by decide

theorem test_decode_row3 :
    decodeTableWord 16 0x1230 = some (.bmi 0x12) ∧
    decodeTableWord 16 0x1231 = some (.andIndY 0x12) ∧
    decodeTableWord 8 0x32 = some .jam32 ∧
    decodeTableWord 16 0x1233 = some (.rlaIndY 0x12) ∧
    decodeTableWord 16 0x1234 = some (.nopZpX34 0x12) ∧
    decodeTableWord 16 0x1235 = some (.andZpX 0x12) ∧
    decodeTableWord 16 0x1236 = some (.rolZpX 0x12) ∧
    decodeTableWord 16 0x1237 = some (.rlaZpX 0x12) ∧
    decodeTableWord 8 0x38 = some .sec ∧
    decodeTableWord 24 0x341239 = some (.andAbsY 0x12 0x34) ∧
    decodeTableWord 8 0x3A = some .nop3A ∧
    decodeTableWord 24 0x34123B = some (.rlaAbsY 0x12 0x34) ∧
    decodeTableWord 24 0x34123C = some (.nopAbsX3C 0x12 0x34) ∧
    decodeTableWord 24 0x34123D = some (.andAbsX 0x12 0x34) ∧
    decodeTableWord 24 0x34123E = some (.rolAbsX 0x12 0x34) ∧
    decodeTableWord 24 0x34123F = some (.rlaAbsX 0x12 0x34) := by decide

theorem test_decode_row4 :
    decodeTableWord 8 0x40 = some .rti ∧
    decodeTableWord 16 0x1241 = some (.eorIndX 0x12) ∧
    decodeTableWord 8 0x42 = some .jam42 ∧
    decodeTableWord 16 0x1243 = some (.sreIndX 0x12) ∧
    decodeTableWord 16 0x1244 = some (.nopZp44 0x12) ∧
    decodeTableWord 16 0x1245 = some (.eorZp 0x12) ∧
    decodeTableWord 16 0x1246 = some (.lsrZp 0x12) ∧
    decodeTableWord 16 0x1247 = some (.sreZp 0x12) ∧
    decodeTableWord 8 0x48 = some .pha ∧
    decodeTableWord 16 0x1249 = some (.eorImm 0x12) ∧
    decodeTableWord 8 0x4A = some .lsrA ∧
    decodeTableWord 16 0x124B = some (.asrImm 0x12) ∧
    decodeTableWord 24 0x34124C = some (.jmpAbs 0x12 0x34) ∧
    decodeTableWord 24 0x34124D = some (.eorAbs 0x12 0x34) ∧
    decodeTableWord 24 0x34124E = some (.lsrAbs 0x12 0x34) ∧
    decodeTableWord 24 0x34124F = some (.sreAbs 0x12 0x34) := by decide

theorem test_decode_row5 :
    decodeTableWord 16 0x1250 = some (.bvc 0x12) ∧
    decodeTableWord 16 0x1251 = some (.eorIndY 0x12) ∧
    decodeTableWord 8 0x52 = some .jam52 ∧
    decodeTableWord 16 0x1253 = some (.sreIndY 0x12) ∧
    decodeTableWord 16 0x1254 = some (.nopZpX54 0x12) ∧
    decodeTableWord 16 0x1255 = some (.eorZpX 0x12) ∧
    decodeTableWord 16 0x1256 = some (.lsrZpX 0x12) ∧
    decodeTableWord 16 0x1257 = some (.sreZpX 0x12) ∧
    decodeTableWord 8 0x58 = some .cli ∧
    decodeTableWord 24 0x341259 = some (.eorAbsY 0x12 0x34) ∧
    decodeTableWord 8 0x5A = some .nop5A ∧
    decodeTableWord 24 0x34125B = some (.sreAbsY 0x12 0x34) ∧
    decodeTableWord 24 0x34125C = some (.nopAbsX5C 0x12 0x34) ∧
    decodeTableWord 24 0x34125D = some (.eorAbsX 0x12 0x34) ∧
    decodeTableWord 24 0x34125E = some (.lsrAbsX 0x12 0x34) ∧
    decodeTableWord 24 0x34125F = some (.sreAbsX 0x12 0x34) := by decide

theorem test_decode_row6 :
    decodeTableWord 8 0x60 = some .rts ∧
    decodeTableWord 16 0x1261 = some (.adcIndX 0x12) ∧
    decodeTableWord 8 0x62 = some .jam62 ∧
    decodeTableWord 16 0x1263 = some (.rraIndX 0x12) ∧
    decodeTableWord 16 0x1264 = some (.nopZp64 0x12) ∧
    decodeTableWord 16 0x1265 = some (.adcZp 0x12) ∧
    decodeTableWord 16 0x1266 = some (.rorZp 0x12) ∧
    decodeTableWord 16 0x1267 = some (.rraZp 0x12) ∧
    decodeTableWord 8 0x68 = some .pla ∧
    decodeTableWord 16 0x1269 = some (.adcImm 0x12) ∧
    decodeTableWord 8 0x6A = some .rorA ∧
    decodeTableWord 16 0x126B = some (.arrImm 0x12) ∧
    decodeTableWord 24 0x34126C = some (.jmpInd 0x12 0x34) ∧
    decodeTableWord 24 0x34126D = some (.adcAbs 0x12 0x34) ∧
    decodeTableWord 24 0x34126E = some (.rorAbs 0x12 0x34) ∧
    decodeTableWord 24 0x34126F = some (.rraAbs 0x12 0x34) := by decide

theorem test_decode_row7 :
    decodeTableWord 16 0x1270 = some (.bvs 0x12) ∧
    decodeTableWord 16 0x1271 = some (.adcIndY 0x12) ∧
    decodeTableWord 8 0x72 = some .jam72 ∧
    decodeTableWord 16 0x1273 = some (.rraIndY 0x12) ∧
    decodeTableWord 16 0x1274 = some (.nopZpX74 0x12) ∧
    decodeTableWord 16 0x1275 = some (.adcZpX 0x12) ∧
    decodeTableWord 16 0x1276 = some (.rorZpX 0x12) ∧
    decodeTableWord 16 0x1277 = some (.rraZpX 0x12) ∧
    decodeTableWord 8 0x78 = some .sei ∧
    decodeTableWord 24 0x341279 = some (.adcAbsY 0x12 0x34) ∧
    decodeTableWord 8 0x7A = some .nop7A ∧
    decodeTableWord 24 0x34127B = some (.rraAbsY 0x12 0x34) ∧
    decodeTableWord 24 0x34127C = some (.nopAbsX7C 0x12 0x34) ∧
    decodeTableWord 24 0x34127D = some (.adcAbsX 0x12 0x34) ∧
    decodeTableWord 24 0x34127E = some (.rorAbsX 0x12 0x34) ∧
    decodeTableWord 24 0x34127F = some (.rraAbsX 0x12 0x34) := by decide

theorem test_decode_row8 :
    decodeTableWord 16 0x1280 = some (.nopImm80 0x12) ∧
    decodeTableWord 16 0x1281 = some (.staIndX 0x12) ∧
    decodeTableWord 16 0x1282 = some (.nopImm82 0x12) ∧
    decodeTableWord 16 0x1283 = some (.saxIndX 0x12) ∧
    decodeTableWord 16 0x1284 = some (.styZp 0x12) ∧
    decodeTableWord 16 0x1285 = some (.staZp 0x12) ∧
    decodeTableWord 16 0x1286 = some (.stxZp 0x12) ∧
    decodeTableWord 16 0x1287 = some (.saxZp 0x12) ∧
    decodeTableWord 8 0x88 = some .dey ∧
    decodeTableWord 16 0x1289 = some (.nopImm89 0x12) ∧
    decodeTableWord 8 0x8A = some .txa ∧
    decodeTableWord 16 0x128B = some (.xaaImm 0x12) ∧
    decodeTableWord 24 0x34128C = some (.styAbs 0x12 0x34) ∧
    decodeTableWord 24 0x34128D = some (.staAbs 0x12 0x34) ∧
    decodeTableWord 24 0x34128E = some (.stxAbs 0x12 0x34) ∧
    decodeTableWord 24 0x34128F = some (.saxAbs 0x12 0x34) := by decide

theorem test_decode_row9 :
    decodeTableWord 16 0x1290 = some (.bcc 0x12) ∧
    decodeTableWord 16 0x1291 = some (.staIndY 0x12) ∧
    decodeTableWord 8 0x92 = some .jam92 ∧
    decodeTableWord 16 0x1293 = some (.shaIndY 0x12) ∧
    decodeTableWord 16 0x1294 = some (.styZpX 0x12) ∧
    decodeTableWord 16 0x1295 = some (.staZpX 0x12) ∧
    decodeTableWord 16 0x1296 = some (.stxZpY 0x12) ∧
    decodeTableWord 16 0x1297 = some (.saxZpY 0x12) ∧
    decodeTableWord 8 0x98 = some .tya ∧
    decodeTableWord 24 0x341299 = some (.staAbsY 0x12 0x34) ∧
    decodeTableWord 8 0x9A = some .txs ∧
    decodeTableWord 24 0x34129B = some (.shsAbsY 0x12 0x34) ∧
    decodeTableWord 24 0x34129C = some (.shyAbsX 0x12 0x34) ∧
    decodeTableWord 24 0x34129D = some (.staAbsX 0x12 0x34) ∧
    decodeTableWord 24 0x34129E = some (.shxAbsY 0x12 0x34) ∧
    decodeTableWord 24 0x34129F = some (.shaAbsY 0x12 0x34) := by decide

theorem test_decode_rowA :
    decodeTableWord 16 0x12A0 = some (.ldyImm 0x12) ∧
    decodeTableWord 16 0x12A1 = some (.ldaIndX 0x12) ∧
    decodeTableWord 16 0x12A2 = some (.ldxImm 0x12) ∧
    decodeTableWord 16 0x12A3 = some (.laxIndX 0x12) ∧
    decodeTableWord 16 0x12A4 = some (.ldyZp 0x12) ∧
    decodeTableWord 16 0x12A5 = some (.ldaZp 0x12) ∧
    decodeTableWord 16 0x12A6 = some (.ldxZp 0x12) ∧
    decodeTableWord 16 0x12A7 = some (.laxZp 0x12) ∧
    decodeTableWord 8 0xA8 = some .tay ∧
    decodeTableWord 16 0x12A9 = some (.ldaImm 0x12) ∧
    decodeTableWord 8 0xAA = some .tax ∧
    decodeTableWord 16 0x12AB = some (.laxImm 0x12) ∧
    decodeTableWord 24 0x3412AC = some (.ldyAbs 0x12 0x34) ∧
    decodeTableWord 24 0x3412AD = some (.ldaAbs 0x12 0x34) ∧
    decodeTableWord 24 0x3412AE = some (.ldxAbs 0x12 0x34) ∧
    decodeTableWord 24 0x3412AF = some (.laxAbs 0x12 0x34) := by decide

theorem test_decode_rowB :
    decodeTableWord 16 0x12B0 = some (.bcs 0x12) ∧
    decodeTableWord 16 0x12B1 = some (.ldaIndY 0x12) ∧
    decodeTableWord 8 0xB2 = some .jamB2 ∧
    decodeTableWord 16 0x12B3 = some (.laxIndY 0x12) ∧
    decodeTableWord 16 0x12B4 = some (.ldyZpX 0x12) ∧
    decodeTableWord 16 0x12B5 = some (.ldaZpX 0x12) ∧
    decodeTableWord 16 0x12B6 = some (.ldxZpY 0x12) ∧
    decodeTableWord 16 0x12B7 = some (.laxZpY 0x12) ∧
    decodeTableWord 8 0xB8 = some .clv ∧
    decodeTableWord 24 0x3412B9 = some (.ldaAbsY 0x12 0x34) ∧
    decodeTableWord 8 0xBA = some .tsx ∧
    decodeTableWord 24 0x3412BB = some (.lasAbsY 0x12 0x34) ∧
    decodeTableWord 24 0x3412BC = some (.ldyAbsX 0x12 0x34) ∧
    decodeTableWord 24 0x3412BD = some (.ldaAbsX 0x12 0x34) ∧
    decodeTableWord 24 0x3412BE = some (.ldxAbsY 0x12 0x34) ∧
    decodeTableWord 24 0x3412BF = some (.laxAbsY 0x12 0x34) := by decide

theorem test_decode_rowC :
    decodeTableWord 16 0x12C0 = some (.cpyImm 0x12) ∧
    decodeTableWord 16 0x12C1 = some (.cmpIndX 0x12) ∧
    decodeTableWord 16 0x12C2 = some (.nopImmC2 0x12) ∧
    decodeTableWord 16 0x12C3 = some (.dcpIndX 0x12) ∧
    decodeTableWord 16 0x12C4 = some (.cpyZp 0x12) ∧
    decodeTableWord 16 0x12C5 = some (.cmpZp 0x12) ∧
    decodeTableWord 16 0x12C6 = some (.decZp 0x12) ∧
    decodeTableWord 16 0x12C7 = some (.dcpZp 0x12) ∧
    decodeTableWord 8 0xC8 = some .iny ∧
    decodeTableWord 16 0x12C9 = some (.cmpImm 0x12) ∧
    decodeTableWord 8 0xCA = some .dex ∧
    decodeTableWord 16 0x12CB = some (.sbxImm 0x12) ∧
    decodeTableWord 24 0x3412CC = some (.cpyAbs 0x12 0x34) ∧
    decodeTableWord 24 0x3412CD = some (.cmpAbs 0x12 0x34) ∧
    decodeTableWord 24 0x3412CE = some (.decAbs 0x12 0x34) ∧
    decodeTableWord 24 0x3412CF = some (.dcpAbs 0x12 0x34) := by decide

theorem test_decode_rowD :
    decodeTableWord 16 0x12D0 = some (.bne 0x12) ∧
    decodeTableWord 16 0x12D1 = some (.cmpIndY 0x12) ∧
    decodeTableWord 8 0xD2 = some .jamD2 ∧
    decodeTableWord 16 0x12D3 = some (.dcpIndY 0x12) ∧
    decodeTableWord 16 0x12D4 = some (.nopZpXD4 0x12) ∧
    decodeTableWord 16 0x12D5 = some (.cmpZpX 0x12) ∧
    decodeTableWord 16 0x12D6 = some (.decZpX 0x12) ∧
    decodeTableWord 16 0x12D7 = some (.dcpZpX 0x12) ∧
    decodeTableWord 8 0xD8 = some .cld ∧
    decodeTableWord 24 0x3412D9 = some (.cmpAbsY 0x12 0x34) ∧
    decodeTableWord 8 0xDA = some .nopDA ∧
    decodeTableWord 24 0x3412DB = some (.dcpAbsY 0x12 0x34) ∧
    decodeTableWord 24 0x3412DC = some (.nopAbsXDC 0x12 0x34) ∧
    decodeTableWord 24 0x3412DD = some (.cmpAbsX 0x12 0x34) ∧
    decodeTableWord 24 0x3412DE = some (.decAbsX 0x12 0x34) ∧
    decodeTableWord 24 0x3412DF = some (.dcpAbsX 0x12 0x34) := by decide

theorem test_decode_rowE :
    decodeTableWord 16 0x12E0 = some (.cpxImm 0x12) ∧
    decodeTableWord 16 0x12E1 = some (.sbcIndX 0x12) ∧
    decodeTableWord 16 0x12E2 = some (.nopImmE2 0x12) ∧
    decodeTableWord 16 0x12E3 = some (.iscIndX 0x12) ∧
    decodeTableWord 16 0x12E4 = some (.cpxZp 0x12) ∧
    decodeTableWord 16 0x12E5 = some (.sbcZp 0x12) ∧
    decodeTableWord 16 0x12E6 = some (.incZp 0x12) ∧
    decodeTableWord 16 0x12E7 = some (.iscZp 0x12) ∧
    decodeTableWord 8 0xE8 = some .inx ∧
    decodeTableWord 16 0x12E9 = some (.sbcImm 0x12) ∧
    decodeTableWord 8 0xEA = some .nop ∧
    decodeTableWord 16 0x12EB = some (.sbcImmEB 0x12) ∧
    decodeTableWord 24 0x3412EC = some (.cpxAbs 0x12 0x34) ∧
    decodeTableWord 24 0x3412ED = some (.sbcAbs 0x12 0x34) ∧
    decodeTableWord 24 0x3412EE = some (.incAbs 0x12 0x34) ∧
    decodeTableWord 24 0x3412EF = some (.iscAbs 0x12 0x34) := by decide

theorem test_decode_rowF :
    decodeTableWord 16 0x12F0 = some (.beq 0x12) ∧
    decodeTableWord 16 0x12F1 = some (.sbcIndY 0x12) ∧
    decodeTableWord 8 0xF2 = some .jamF2 ∧
    decodeTableWord 16 0x12F3 = some (.iscIndY 0x12) ∧
    decodeTableWord 16 0x12F4 = some (.nopZpXF4 0x12) ∧
    decodeTableWord 16 0x12F5 = some (.sbcZpX 0x12) ∧
    decodeTableWord 16 0x12F6 = some (.incZpX 0x12) ∧
    decodeTableWord 16 0x12F7 = some (.iscZpX 0x12) ∧
    decodeTableWord 8 0xF8 = some .sed ∧
    decodeTableWord 24 0x3412F9 = some (.sbcAbsY 0x12 0x34) ∧
    decodeTableWord 8 0xFA = some .nopFA ∧
    decodeTableWord 24 0x3412FB = some (.iscAbsY 0x12 0x34) ∧
    decodeTableWord 24 0x3412FC = some (.nopAbsXFC 0x12 0x34) ∧
    decodeTableWord 24 0x3412FD = some (.sbcAbsX 0x12 0x34) ∧
    decodeTableWord 24 0x3412FE = some (.incAbsX 0x12 0x34) ∧
    decodeTableWord 24 0x3412FF = some (.iscAbsX 0x12 0x34) := by decide

/-! ### One step on a small state -/

/-- The start of a vector: PC = 0600, S = FF, all flags 0, nothing pending (95_test_vectors.md, section 3). -/
def start : State :=
  { State.reset with pc := 0x0600, sp := 0xFF, iPrev := false, p := ⟨false, false, false, false, false, false⟩ }

/-- Memory with these bytes. -/
def withMem (cells : List (Nat × Byte)) (s : State) : State :=
  { s with mem := cells.foldl (fun m c => Memory.put m c.1 c.2) s.mem }

/-- One step that runs the instruction with these bytes at PC answers a state that passes the check. -/
def runs (bytes : List Byte) (s : State) (check : State → Bool) : Bool :=
  match step (placeInstruction bytes s) with
  | .next t => check t
  | .fault _ => false
  | .refused _ => false

/-- The flags N, V, Z, C as four bits. -/
def nvzc (t : State) : List Bool := [t.p.n, t.p.v, t.p.z, t.p.c]

/-- 2.1, ADC, D = 0. -/
theorem test_adc_wrap : runs [0x69, 0x01] { start with a := 0xFF }
    (fun t => t.a == 0x00 && nvzc t == [false, false, true, true] && t.pc == 0x0602) = true := by decide

/-- 2.1, ADC, D = 0. -/
theorem test_adc_overflow : runs [0x69, 0x00] { start with a := 0x7F, p := ⟨false, false, false, false, false, true⟩ }
    (fun t => t.a == 0x80 && nvzc t == [true, true, false, false] && t.pc == 0x0602) = true := by decide

/-- 2.1, SBC, D = 0. -/
theorem test_sbc_borrow : runs [0xE9, 0xB0] { start with a := 0x50, p := ⟨false, false, false, false, false, true⟩ }
    (fun t => t.a == 0xA0 && nvzc t == [true, true, false, false]) = true := by decide

/-- 2.1, SBC, D = 0. -/
theorem test_sbc_lower_bound : runs [0xE9, 0x01] { start with a := 0x81, p := ⟨false, false, false, false, false, true⟩ }
    (fun t => t.a == 0x80 && nvzc t == [true, false, false, true]) = true := by decide

/-- 2.10, *SBC. -/
theorem test_sbcEB : runs [0xEB, 0x01] { start with a := 0x00, p := ⟨false, false, false, false, false, true⟩ }
    (fun t => t.a == 0xFF && nvzc t == [true, false, false, false]) = true := by decide

/-- 2.1, ADC, D = 1: A and C. -/
theorem test_adc_decimal : runs [0x69, 0x46] { start with a := 0x58, p := ⟨false, false, true, false, false, true⟩ }
    (fun t => t.a == 0x05 && t.p.c) = true := by decide

/-- 2.1, SBC, D = 1: A and C. -/
theorem test_sbc_decimal : runs [0xE9, 0x21] { start with a := 0x12, p := ⟨false, false, true, false, false, true⟩ }
    (fun t => t.a == 0x91 && !t.p.c) = true := by decide

/-- 2.1, Compare 00 with FF. -/
theorem test_cmp_small : runs [0xC9, 0xFF] { start with a := 0x00 }
    (fun t => nvzc t == [false, false, false, false] && t.a == 0x00) = true := by decide

/-- 2.1, addressed forms, D1 40. -/
theorem test_cmp_indY : runs [0xD1, 0x40] (withMem [(0x0040, 0xFE), (0x0041, 0x02), (0x0301, 0x40)] { start with a := 0x40, y := 0x03 })
    (fun t => nvzc t == [false, false, true, true]) = true := by decide

/-- R126, the example. -/
theorem test_cpx_equal : runs [0xE0, 0x10] { start with x := 0x10 }
    (fun t => nvzc t == [false, false, true, true]) = true := by decide

/-- R127, the example. -/
theorem test_cpy_less : runs [0xC0, 0x01] { start with y := 0x00 }
    (fun t => nvzc t == [true, false, false, false]) = true := by decide

/-- 2.2. -/
theorem test_and : runs [0x29, 0x3C] { start with a := 0xF0 }
    (fun t => t.a == 0x30 && nvzc t == [false, false, false, false]) = true := by decide

/-- 2.2. -/
theorem test_ora : runs [0x09, 0x3C] { start with a := 0xF0 }
    (fun t => t.a == 0xFC && nvzc t == [true, false, false, false]) = true := by decide

/-- 2.2. -/
theorem test_eor : runs [0x49, 0x3C] { start with a := 0xF0 }
    (fun t => t.a == 0xCC && nvzc t == [true, false, false, false]) = true := by decide

/-- 2.2, BIT 01, C0. -/
theorem test_bit : runs [0x24, 0x10] (withMem [(0x0010, 0xC0)] { start with a := 0x01 })
    (fun t => t.a == 0x01 && nvzc t == [true, true, true, false]) = true := by decide

/-- 2.3. -/
theorem test_aslA : runs [0x0A] { start with a := 0x80 }
    (fun t => t.a == 0x00 && nvzc t == [false, false, true, true]) = true := by decide

/-- 2.3, memory forms. -/
theorem test_asl_absX : runs [0x1E, 0xFF, 0x02] (withMem [(0x0301, 0xC1)] { start with x := 0x02, a := 0x07 })
    (fun t => t.byteAt 0x0301 == 0x82 && t.a == 0x07 && nvzc t == [true, false, false, true]) = true := by decide

/-- 2.3. -/
theorem test_lsrA : runs [0x4A] { start with a := 0x55, p := ⟨true, false, false, false, false, true⟩ }
    (fun t => t.a == 0x2A && nvzc t == [false, false, false, true]) = true := by decide

/-- 2.3. -/
theorem test_rolA : runs [0x2A] { start with a := 0x55, p := ⟨false, false, false, false, false, true⟩ }
    (fun t => t.a == 0xAB && nvzc t == [true, false, false, false]) = true := by decide

/-- 2.3. -/
theorem test_rorA : runs [0x6A] { start with a := 0x55, p := ⟨false, false, false, false, false, true⟩ }
    (fun t => t.a == 0xAA && nvzc t == [true, false, false, true]) = true := by decide

/-- 2.3, memory forms. -/
theorem test_ror_zp : runs [0x66, 0x10] (withMem [(0x0010, 0x01)] { start with p := ⟨false, false, false, false, false, true⟩ })
    (fun t => t.byteAt 0x0010 == 0x80 && nvzc t == [true, false, false, true]) = true := by decide

/-- 2.4. -/
theorem test_branch_back : runs [0xD0, 0x80] { start with pc := 0x200 }
    (fun t => t.pc == 0x0182) = true := by decide

/-- 2.4, wraps downward. -/
theorem test_branch_wraps : runs [0x90, 0x80] { start with pc := 0x10 }
    (fun t => t.pc == 0xFF92) = true := by decide

/-- 2.4, conditions. -/
theorem test_bcs : runs [0xB0, 0x05] { start with pc := 0x200, p := ⟨false, false, false, false, false, true⟩ }
    (fun t => t.pc == 0x0207) = true := by decide

/-- 2.4, conditions. -/
theorem test_beq : runs [0xF0, 0x05] { start with pc := 0x200, p := ⟨false, false, false, false, true, false⟩ }
    (fun t => t.pc == 0x0207) = true := by decide

/-- 2.4, conditions. -/
theorem test_bmi : runs [0x30, 0x05] { start with pc := 0x200, p := ⟨true, false, false, false, false, false⟩ }
    (fun t => t.pc == 0x0207) = true := by decide

/-- 2.4, conditions. -/
theorem test_bvs : runs [0x70, 0x05] { start with pc := 0x200, p := ⟨false, true, false, false, false, false⟩ }
    (fun t => t.pc == 0x0207) = true := by decide

/-- 2.4, conditions. -/
theorem test_bpl : runs [0x10, 0x05] { start with pc := 0x200, p := ⟨true, false, false, false, false, false⟩ }
    (fun t => t.pc == 0x0202) = true := by decide

/-- 2.4, conditions. -/
theorem test_bvc : runs [0x50, 0x05] { start with pc := 0x200, p := ⟨false, true, false, false, false, false⟩ }
    (fun t => t.pc == 0x0202) = true := by decide

/-- 2.4, conditions. -/
theorem test_bne : runs [0xD0, 0x05] { start with pc := 0x200, p := ⟨false, false, false, false, true, false⟩ }
    (fun t => t.pc == 0x0202) = true := by decide

/-- 2.4, conditions. -/
theorem test_bcc : runs [0x90, 0x05] { start with pc := 0x200, p := ⟨false, false, false, false, false, true⟩ }
    (fun t => t.pc == 0x0202) = true := by decide

/-- 2.5, S = 00. -/
theorem test_jsr_wraps : runs [0x20, 0x34, 0x12] { start with sp := 0x00 }
    (fun t => t.byteAt 0x0100 == 0x06 && t.byteAt 0x01FF == 0x02 && t.sp == 0xFE && t.pc == 0x1234) = true := by decide

/-- 2.5. -/
theorem test_rts : runs [0x60] (withMem [(0x01FE, 0x02), (0x01FF, 0x06)] { start with sp := 0xFD })
    (fun t => t.pc == 0x0603 && t.sp == 0xFF) = true := by decide

/-- 2.5. -/
theorem test_rts_wraps : runs [0x60] (withMem [(0x01FE, 0xFF), (0x01FF, 0xFF)] { start with sp := 0xFD })
    (fun t => t.pc == 0x0000 && t.sp == 0xFF) = true := by decide

/-- 2.5. -/
theorem test_jmp : runs [0x4C, 0x34, 0x12] start
    (fun t => t.pc == 0x1234) = true := by decide

/-- 2.5, S3. -/
theorem test_jmp_page_end : runs [0x6C, 0xFF, 0x02] (withMem [(0x02FF, 0x00), (0x0200, 0x40), (0x0300, 0x50)] start)
    (fun t => t.pc == 0x4000) = true := by decide

/-- 2.5. -/
theorem test_brk : runs [0x00] (withMem [(0xFFFE, 0x00), (0xFFFF, 0x80)] { start with pc := 0x300, p := ⟨false, false, false, false, true, true⟩ })
    (fun t => t.byteAt 0x01FF == 0x03 && t.byteAt 0x01FE == 0x02 && t.byteAt 0x01FD == 0x33 && t.sp == 0xFC && t.pc == 0x8000 && t.p == ⟨false, false, false, true, true, true⟩) = true := by decide

/-- 2.5, byte CF. -/
theorem test_rti : runs [0x40] (withMem [(0x01FD, 0xCF), (0x01FE, 0x02), (0x01FF, 0x03)] { start with sp := 0xFC })
    (fun t => t.pc == 0x0302 && t.sp == 0xFF && t.p == ⟨true, true, true, true, true, true⟩ && t.iPrev) = true := by decide

/-- 2.6, from FF. -/
theorem test_clc_from_FF : runs [0x18] { start with p := ⟨true, true, true, true, true, true⟩, iPrev := true }
    (fun t => pImage true t.p == 0xFE && t.pc == 0x0601) = true := by decide

/-- 2.6, from 30. -/
theorem test_clc_from_30 : runs [0x18] start
    (fun t => pImage true t.p == 0x30) = true := by decide

/-- 2.6, from FF. -/
theorem test_sec_from_FF : runs [0x38] { start with p := ⟨true, true, true, true, true, true⟩, iPrev := true }
    (fun t => pImage true t.p == 0xFF && t.pc == 0x0601) = true := by decide

/-- 2.6, from 30. -/
theorem test_sec_from_30 : runs [0x38] start
    (fun t => pImage true t.p == 0x31) = true := by decide

/-- 2.6, from FF. -/
theorem test_cld_from_FF : runs [0xD8] { start with p := ⟨true, true, true, true, true, true⟩, iPrev := true }
    (fun t => pImage true t.p == 0xF7 && t.pc == 0x0601) = true := by decide

/-- 2.6, from 30. -/
theorem test_cld_from_30 : runs [0xD8] start
    (fun t => pImage true t.p == 0x30) = true := by decide

/-- 2.6, from FF. -/
theorem test_sed_from_FF : runs [0xF8] { start with p := ⟨true, true, true, true, true, true⟩, iPrev := true }
    (fun t => pImage true t.p == 0xFF && t.pc == 0x0601) = true := by decide

/-- 2.6, from 30. -/
theorem test_sed_from_30 : runs [0xF8] start
    (fun t => pImage true t.p == 0x38) = true := by decide

/-- 2.6, from FF. -/
theorem test_cli_from_FF : runs [0x58] { start with p := ⟨true, true, true, true, true, true⟩, iPrev := true }
    (fun t => pImage true t.p == 0xFB && t.pc == 0x0601 && t.iPrev) = true := by decide

/-- 2.6, from 30. -/
theorem test_cli_from_30 : runs [0x58] start
    (fun t => pImage true t.p == 0x30) = true := by decide

/-- 2.6, from FF. -/
theorem test_sei_from_FF : runs [0x78] { start with p := ⟨true, true, true, true, true, true⟩, iPrev := true }
    (fun t => pImage true t.p == 0xFF && t.pc == 0x0601) = true := by decide

/-- 2.6, from 30. -/
theorem test_sei_from_30 : runs [0x78] start
    (fun t => pImage true t.p == 0x34 && !t.iPrev) = true := by decide

/-- 2.6, from FF. -/
theorem test_clv_from_FF : runs [0xB8] { start with p := ⟨true, true, true, true, true, true⟩, iPrev := true }
    (fun t => pImage true t.p == 0xBF && t.pc == 0x0601) = true := by decide

/-- 2.6, from 30. -/
theorem test_clv_from_30 : runs [0xB8] start
    (fun t => pImage true t.p == 0x30) = true := by decide

/-- 2.6, from FF. -/
theorem test_nop_from_FF : runs [0xEA] { start with p := ⟨true, true, true, true, true, true⟩, iPrev := true }
    (fun t => pImage true t.p == 0xFF && t.pc == 0x0601) = true := by decide

/-- 2.6, from 30. -/
theorem test_nop_from_30 : runs [0xEA] start
    (fun t => pImage true t.p == 0x30) = true := by decide

/-- 2.7. -/
theorem test_inc_absX : runs [0xFE, 0xFF, 0x10] (withMem [(0x1100, 0xFF)] { start with x := 0x01 })
    (fun t => t.byteAt 0x1100 == 0x00 && nvzc t == [false, false, true, false]) = true := by decide

/-- 2.7. -/
theorem test_dec_zp : runs [0xC6, 0x10] start
    (fun t => t.byteAt 0x0010 == 0xFF && nvzc t == [true, false, false, false]) = true := by decide

/-- S1. -/
theorem test_inx : runs [0xE8] { start with x := 0xFF }
    (fun t => t.x == 0x00 && nvzc t == [false, false, true, false]) = true := by decide

/-- R195. -/
theorem test_iny : runs [0xC8] { start with y := 0x7F }
    (fun t => t.y == 0x80 && nvzc t == [true, false, false, false]) = true := by decide

/-- 2.7. -/
theorem test_dex : runs [0xCA] { start with x := 0x80 }
    (fun t => t.x == 0x7F && nvzc t == [false, false, false, false]) = true := by decide

/-- S2. -/
theorem test_dey : runs [0x88] { start with y := 0x00 }
    (fun t => t.y == 0xFF && nvzc t == [true, false, false, false]) = true := by decide

/-- 2.8. -/
theorem test_lda : runs [0xA9, 0x80] start
    (fun t => t.a == 0x80 && nvzc t == [true, false, false, false]) = true := by decide

/-- 2.9. -/
theorem test_ldx_zpY : runs [0xB6, 0xFF] (withMem [(0x0000, 0x77)] { start with y := 0x01 })
    (fun t => t.x == 0x77) = true := by decide

/-- 2.8. -/
theorem test_ldy : runs [0xA0, 0xFF] start
    (fun t => t.y == 0xFF && nvzc t == [true, false, false, false]) = true := by decide

/-- 2.8. -/
theorem test_sta_absX : runs [0x9D, 0x00, 0x12] { start with a := 0x77, x := 0x05 }
    (fun t => t.byteAt 0x1205 == 0x77 && nvzc t == [false, false, false, false]) = true := by decide

/-- 2.8. -/
theorem test_sta_indY : runs [0x91, 0x20] (withMem [(0x0020, 0xFE), (0x0021, 0x12)] { start with a := 0x42, y := 0x05 })
    (fun t => t.byteAt 0x1303 == 0x42) = true := by decide

/-- 2.8. -/
theorem test_stx_zpY : runs [0x96, 0xF0] { start with x := 0x99, y := 0x20 }
    (fun t => t.byteAt 0x0010 == 0x99) = true := by decide

/-- 2.8. -/
theorem test_sty_zpX : runs [0x94, 0xF0] { start with y := 0x99, x := 0x20 }
    (fun t => t.byteAt 0x0010 == 0x99) = true := by decide

/-- 2.8. -/
theorem test_pha : runs [0x48] { start with a := 0x5A, sp := 0x00 }
    (fun t => t.byteAt 0x0100 == 0x5A && t.sp == 0xFF) = true := by decide

/-- 2.8. -/
theorem test_pla : runs [0x68] (withMem [(0x0100, 0x80)] { start with sp := 0xFF })
    (fun t => t.sp == 0x00 && t.a == 0x80 && nvzc t == [true, false, false, false]) = true := by decide

/-- 2.8. -/
theorem test_php : runs [0x08] { start with p := ⟨true, false, false, true, false, true⟩, iPrev := true }
    (fun t => t.byteAt 0x01FF == 0xB5 && t.sp == 0xFE) = true := by decide

/-- 2.8. -/
theorem test_plp : runs [0x28] (withMem [(0x01FF, 0xFF)] { start with sp := 0xFE })
    (fun t => t.p == ⟨true, true, true, true, true, true⟩ && !t.iPrev && t.sp == 0xFF) = true := by decide

/-- R214. -/
theorem test_txs : runs [0x9A] { start with x := 0x00, p := ⟨true, false, false, false, false, false⟩ }
    (fun t => t.sp == 0x00 && nvzc t == [true, false, false, false]) = true := by decide

/-- 2.8. -/
theorem test_tsx : runs [0xBA] { start with sp := 0x80 }
    (fun t => t.x == 0x80 && nvzc t == [true, false, false, false]) = true := by decide

/-- 2.8. -/
theorem test_tax : runs [0xAA] { start with a := 0x80 }
    (fun t => t.x == 0x80 && t.a == 0x80 && nvzc t == [true, false, false, false]) = true := by decide

/-- 2.8. -/
theorem test_tay : runs [0xA8] { start with y := 0x09 }
    (fun t => t.y == 0x00 && nvzc t == [false, false, true, false]) = true := by decide

/-- 2.8. -/
theorem test_txa : runs [0x8A] { start with x := 0x7F }
    (fun t => t.a == 0x7F && nvzc t == [false, false, false, false]) = true := by decide

/-- 2.8. -/
theorem test_tya : runs [0x98] { start with a := 0x09 }
    (fun t => t.a == 0x00 && nvzc t == [false, false, true, false]) = true := by decide

/-- 2.9. -/
theorem test_lda_zpX_wraps : runs [0xB5, 0xF0] (withMem [(0x0010, 0xAA), (0x0110, 0xBB)] { start with x := 0x20 })
    (fun t => t.a == 0xAA) = true := by decide

/-- 2.9. -/
theorem test_lda_indX_wraps : runs [0xA1, 0xFE] (withMem [(0x00FF, 0x34), (0x0000, 0x12), (0x1234, 0x5A)] { start with x := 0x01 })
    (fun t => t.a == 0x5A) = true := by decide

/-- 2.9. -/
theorem test_lda_indY_wraps : runs [0xB1, 0xFF] (withMem [(0x00FF, 0xF8), (0x0000, 0x20), (0x2108, 0x6B)] { start with y := 0x10 })
    (fun t => t.a == 0x6B) = true := by decide

/-- 2.9. -/
theorem test_lda_absX_wraps : runs [0xBD, 0xFF, 0xFF] (withMem [(0x0001, 0x21)] { start with x := 0x02 })
    (fun t => t.a == 0x21) = true := by decide

/-- 2.9. -/
theorem test_lda_absY : runs [0xB9, 0x80, 0x12] (withMem [(0x1300, 0x11)] { start with y := 0x80 })
    (fun t => t.a == 0x11) = true := by decide

/-- 2.9. -/
theorem test_lda_abs_across_top : runs [0xAD, 0x34, 0x12] (withMem [(0x1234, 0x99)] { start with pc := 0xFFFE })
    (fun t => t.a == 0x99 && t.pc == 0x0001) = true := by decide

/-- 2.10. -/
theorem test_slo : runs [0x07, 0x10] (withMem [(0x0010, 0x81)] { start with a := 0x01 })
    (fun t => t.byteAt 0x0010 == 0x02 && t.a == 0x03 && nvzc t == [false, false, false, true]) = true := by decide

/-- 2.10. -/
theorem test_rla : runs [0x27, 0x10] (withMem [(0x0010, 0x81)] { start with a := 0xFF, p := ⟨false, false, false, false, false, true⟩ })
    (fun t => t.byteAt 0x0010 == 0x03 && t.a == 0x03 && nvzc t == [false, false, false, true]) = true := by decide

/-- 2.10. -/
theorem test_sre : runs [0x47, 0x10] (withMem [(0x0010, 0x03)] { start with a := 0xFF })
    (fun t => t.byteAt 0x0010 == 0x01 && t.a == 0xFE && nvzc t == [true, false, false, true]) = true := by decide

/-- 2.10. -/
theorem test_rra : runs [0x67, 0x10] (withMem [(0x0010, 0x03)] { start with a := 0x7F })
    (fun t => t.byteAt 0x0010 == 0x01 && t.a == 0x81 && nvzc t == [true, true, false, false]) = true := by decide

/-- 2.10. -/
theorem test_dcp : runs [0xC7, 0x10] (withMem [(0x0010, 0x41)] { start with a := 0x40 })
    (fun t => t.byteAt 0x0010 == 0x40 && t.a == 0x40 && nvzc t == [false, false, true, true]) = true := by decide

/-- 2.10. -/
theorem test_isc : runs [0xE7, 0x10] (withMem [(0x0010, 0x0F)] { start with a := 0x20, p := ⟨false, false, false, false, false, true⟩ })
    (fun t => t.byteAt 0x0010 == 0x10 && t.a == 0x10 && nvzc t == [false, false, false, true]) = true := by decide

/-- 2.10. -/
theorem test_sax : runs [0x87, 0x10] { start with a := 0xF0, x := 0x3C }
    (fun t => t.byteAt 0x0010 == 0x30) = true := by decide

/-- 2.10. -/
theorem test_lax : runs [0xA7, 0x10] (withMem [(0x0010, 0x80)] start)
    (fun t => t.a == 0x80 && t.x == 0x80 && nvzc t == [true, false, false, false]) = true := by decide

/-- 2.10. -/
theorem test_las : runs [0xBB, 0x00, 0x03] (withMem [(0x0305, 0x0F)] { start with sp := 0xF3, y := 0x05 })
    (fun t => t.a == 0x03 && t.x == 0x03 && t.sp == 0x03) = true := by decide

/-- 2.10. -/
theorem test_anc0B : runs [0x0B, 0x80] { start with a := 0xFF }
    (fun t => t.a == 0x80 && nvzc t == [true, false, false, true]) = true := by decide

/-- 2.10. -/
theorem test_anc2B : runs [0x2B, 0x7F] { start with a := 0xFF, p := ⟨false, false, false, false, false, true⟩ }
    (fun t => t.a == 0x7F && nvzc t == [false, false, false, false]) = true := by decide

/-- 2.10. -/
theorem test_asr : runs [0x4B, 0x0F] { start with a := 0x03 }
    (fun t => t.a == 0x01 && nvzc t == [false, false, false, true]) = true := by decide

/-- 2.10, D = 0. -/
theorem test_arr : runs [0x6B, 0xFF] { start with a := 0xC0, p := ⟨false, false, false, false, false, true⟩ }
    (fun t => t.a == 0xE0 && nvzc t == [true, false, false, true]) = true := by decide

/-- 2.10, D = 1. -/
theorem test_arr_decimal : runs [0x6B, 0xFF] { start with a := 0x50, p := ⟨false, false, true, false, false, true⟩ }
    (fun t => t.a == 0xA8 && nvzc t == [true, true, false, true]) = true := by decide

/-- 2.10. -/
theorem test_sbx : runs [0xCB, 0x10] { start with a := 0xFF, x := 0x3C }
    (fun t => t.x == 0x2C && t.a == 0xFF && nvzc t == [false, false, false, true]) = true := by decide

/-- R251: X is unchanged. -/
theorem test_xaa_flags : runs [0x8B, 0xFF] { start with a := 0xFF, x := 0x3C }
    (fun t => t.x == 0x3C && t.pc == 0x0602) = true := by decide

/-- R239. -/
theorem test_nop_absX : runs [0x1C, 0xF0, 0x12] { start with x := 0x20 }
    (fun t => t.pc == 0x0603 && t.x == 0x20) = true := by decide

/-- 2.10. -/
theorem test_nop_imm : runs [0x80, 0x55] start
    (fun t => t.pc == 0x0602) = true := by decide

/-- 2.10. -/
theorem test_nop_implied : runs [0x1A] start
    (fun t => t.pc == 0x0601) = true := by decide

/-- 2.10. -/
theorem test_jam : runs [0x02] { start with a := 0x11 }
    (fun t => t.halted && t.a == 0x11) = true := by decide

/-- 2.10. -/
theorem test_sha_absY : runs [0x9F, 0x00, 0x12] { start with a := 0xFF, x := 0xFF, y := 0x05 }
    (fun t => t.byteAt 0x1205 == 0x13) = true := by decide

/-- 2.10. -/
theorem test_sha_indY : runs [0x93, 0x20] (withMem [(0x0021, 0x12)] { start with a := 0x1F, x := 0xF7, y := 0x05 })
    (fun t => t.byteAt 0x1205 == 0x13) = true := by decide

/-- 2.10. -/
theorem test_shx : runs [0x9E, 0x00, 0x12] { start with x := 0xFF, y := 0x05 }
    (fun t => t.byteAt 0x1205 == 0x13) = true := by decide

/-- 2.10. -/
theorem test_shy : runs [0x9C, 0x00, 0xFF] (withMem [(0xFF05, 0x77)] { start with y := 0xFF, x := 0x05 })
    (fun t => t.byteAt 0xFF05 == 0x00) = true := by decide

/-- 2.10. -/
theorem test_shs : runs [0x9B, 0x00, 0x12] { start with a := 0xF7, x := 0x7F, y := 0x05 }
    (fun t => t.sp == 0x77 && t.byteAt 0x1205 == 0x13) = true := by decide

/-! ### Events at a boundary (2.11) -/

/-- One step from `s` answers a state that passes the check. -/
def steps (s : State) (check : State → Bool) : Bool :=
  match step s with
  | .next t => check t
  | .fault _ => false
  | .refused _ => false

/-- The state of the first row of 2.11. -/
def atIrq : State :=
  withMem [(0xFFFE, 0x00), (0xFFFF, 0x90), (0xFFFA, 0x00), (0xFFFB, 0xA0), (0x0612, 0xEA)]
    { start with pc := 0x0612, sp := 0xF0, p := ⟨true, false, true, false, false, true⟩ }

/-- 2.11, first row: the line is asserted by the environment at this boundary. -/
theorem test_irq_taken : steps { atIrq with env := [⟨[.irqLine true], none⟩] }
    (fun t => t.byteAt 0x01F0 == 0x06 && t.byteAt 0x01EF == 0x12 && t.byteAt 0x01EE == 0xA9 && t.sp == 0xED &&
      t.p == ⟨true, false, true, true, false, true⟩ && t.pc == 0x9000 && t.iPrev) = true := by decide

/-- 2.11, the same with I = 1: the instruction at 0612 runs. -/
theorem test_irq_masked : steps { atIrq with irqLine := true, p := ⟨true, false, true, true, false, true⟩, iPrev := true }
    (fun t => t.pc == 0x0613 && t.irqLine && t.sp == 0xF0) = true := by decide

/-- 2.11, NMI with I = 1. -/
theorem test_nmi_taken :
    steps { atIrq with env := [⟨[.nmi], none⟩], p := ⟨true, false, true, true, false, true⟩, iPrev := true }
      (fun t => t.byteAt 0x01EE == 0xAD && t.sp == 0xED && t.pc == 0xA000 && !t.nmiPending) = true := by decide

/-- R269: NMI before IRQ; the IRQ line stays. -/
theorem test_nmi_before_irq : steps { atIrq with irqLine := true, nmiPending := true }
    (fun t => t.pc == 0xA000 && t.irqLine && !t.nmiPending) = true := by decide

/-- 2.11, BRK and NMI collide: three pushes, I set, the latch clear. -/
theorem test_brk_nmi_collision :
    steps (withMem [(0xFFFA, 0x00), (0xFFFB, 0xA0)] { start with pc := 0x0300, env := [⟨[], some .nmi⟩] })
      (fun t => t.sp == 0xFC && t.p.i && !t.nmiPending) = true := by
  decide

/-- 2.11: a halted CPU takes neither IRQ nor NMI, and the NMI edge is lost (R236). -/
theorem test_halted_ignores : steps { atIrq with halted := true, irqLine := true, env := [⟨[.nmi], none⟩] }
    (fun t => t.pc == 0x0612 && t.halted && !t.nmiPending) = true := by decide

/-- 2.11: RESET leaves the halt. -/
theorem test_reset_leaves_halt :
    steps (withMem [(0xFFFC, 0x00), (0xFFFD, 0x80)]
        { start with halted := true, nmiPending := true, env := [⟨[.resetLine true], none⟩] })
      (fun t => t.pc == 0x8000 && t.p.i && t.iPrev && !t.halted && !t.nmiPending && t.resetLine) = true := by decide

/-- R41: the set-overflow line sets V when the platform uses it. -/
theorem test_set_overflow :
    steps { start with plat := ⟨[], true, .byRule⟩, mem := [(0x0600, 0xEA)], env := [⟨[.soLine true], none⟩] }
      (fun t => t.p.v && t.soLine) = true := by decide

/-! ### Platform (R52, R53, D12, D16) -/

theorem test_rom_write_ignored :
    runs [0x85, 0x10] { start with a := 0x42, plat := ⟨[⟨0x10, 0x10, .rom⟩], false, .byRule⟩ }
      (fun t => t.byteAt 0x0010 == 0x00) = true := by decide

theorem test_discarded_read_refused :
    (match step (placeInstruction [0xBD, 0x00, 0x20]
        { start with x := 5, plat := ⟨[⟨0x2000, 0x2000, .device true⟩], false, .byRule⟩ }) with
      | .refused r => decide (r = .discardedReadOfDevice)
      | .fault _ => false
      | .next _ => false) = true := by decide

theorem test_device_without_effect_runs :
    runs [0xBD, 0x00, 0x20] { start with x := 5, plat := ⟨[⟨0x2000, 0x2000, .device false⟩], false, .byRule⟩ }
      (fun t => t.pc == 0x0603) = true := by decide

/-! ### The parameter UnstableOps (R5, R230, R251, D14) -/

/-- Every unstable opcode has this use. -/
def allUnstable (u : UnstableUse) : UnstableOps := ⟨u, u, u, u, u, u, u, u⟩

/-- `start` with X = 1, Y = 1 and every unstable opcode used so. -/
def unstableStart (u : UnstableUse) : State :=
  { start with x := 1, y := 1, plat := ⟨[], false, allUnstable u⟩ }

/-- The step at this instruction is refused by `UnstableOps`. -/
def refusedAsUnstable (bytes : List Byte) (s : State) : Bool :=
  match step (placeInstruction bytes s) with
  | .refused r => decide (r = .unstableOpcode)
  | .fault _ => false
  | .next _ => false

/-- 95_test_vectors.md: "`UnstableOps` = refuse does not execute them at all". -/
theorem test_unstable_refused :
    ([[0x8B, 0x00], [0xAB, 0x00], [0x93, 0x10], [0x9F, 0x00, 0x12], [0x9E, 0x00, 0x12], [0x9C, 0x00, 0x12],
      [0x9B, 0x00, 0x12]] : List (List Byte)).all (fun b => refusedAsUnstable b (unstableStart .refuse)) = true := by
  decide

/-- R230: ARR is stable with D = 0 and fragile with D = 1. -/
theorem test_unstable_arr :
    runs [0x6B, 0xFF] { unstableStart .refuse with a := 0x40 } (fun t => t.a == 0x20 && !t.p.c && t.p.v) = true ∧
    refusedAsUnstable [0x6B, 0xFF] { unstableStart .refuse with p := { start.p with d := true } } = true := by decide

/-- U9, R232: where the accumulator is drawn, V and C keep their formulas (A = 60, C = 0: V = 1, C = 1). -/
theorem test_unstable_arr_drawn :
    runs [0x6B, 0xFF] { unstableStart .draw with a := 0x60, p := { start.p with d := true } }
      (fun t => t.p.v && t.p.c && !t.p.n && !t.p.z && t.pc == 0x0602) = true := by decide

/-- R246: where the stored byte is drawn, SHS still sets S to A AND X. -/
theorem test_unstable_shs_drawn :
    runs [0x9B, 0x00, 0x12] { unstableStart .draw with a := 0xFF } (fun t => t.sp == 0x01 && t.pc == 0x0603) = true := by
  decide

/-! ### Timing, accesses, assembler text -/

/-- 2.12. -/
theorem test_cycles :
    instrCycles (.ldaAbsY 0x80 0x12) { start with y := 0x80 } = some 5 ∧
    instrCycles (.ldaAbsY 0x80 0x12) { start with y := 0x7F } = some 4 ∧
    instrCycles (.bne 0x80) { start with pc := 0x0200 } = some 4 ∧
    instrCycles (.bne 0x80) { start with p := ⟨false, false, false, false, true, false⟩ } = some 2 ∧
    instrCycles (.dcpIndX 0) start = some 8 ∧ instrCycles .jam02 start = none := by decide

/-- R301: how many opcodes have each kind of string (R300: 24 and 8 paged, 8 branches, 12 that never complete). -/
theorem test_timing_counts :
    (timingTable.flatten.filter (· = .paged 4)).length = 24 ∧ (timingTable.flatten.filter (· = .paged 5)).length = 8 ∧
    (timingTable.flatten.filter (· = .branch)).length = 8 ∧ (timingTable.flatten.filter (· = .never)).length = 12 := by
  decide

/-- 2.7: INC a16,X reads the base and discards it, reads, then writes. -/
theorem test_bus_inc :
    busTrace (.incAbsX 0xFF 0x10) { start with x := 1 } =
      [.read 0x0600, .read 0x0601, .read 0x0602, .read 0x10FF, .read 0x1100, .write 0x1100] := by decide

/-- R92: operand syntax; a branch is written with its target. -/
theorem test_assembler :
    assemblerText 0x060B (.bne 0xF7) = "BNE $0604" ∧ assemblerText 0 (.adcAbsX 0x00 0x02) = "ADC $0200,X" ∧
    assemblerText 0 (.ldaIndY 0x40) = "LDA ($40),Y" ∧ assemblerText 0 .aslA = "ASL A" := by decide

/-- R92: the offset of a branch. -/
theorem test_branch_offset : branchOffset 0x060B 0x0604 = some 0xF7 ∧ branchOffset 0x0200 0x0300 = none := by decide

/-! ### Witnesses: concrete states and operands that meet the hypotheses of each obligation together -/

/-- A platform with a ROM stack page, a hole, and two devices, one of whose reads has side effects. -/
def mixed : State :=
  { start with
    mem := [(0x0010, 0x20), (0x0600, 0xA9), (0x0601, 0x80)]
    plat := ⟨[⟨0x0100, 0x01FF, .rom⟩, ⟨0x2000, 0x20FF, .device true⟩, ⟨0x3000, 0x30FF, .device false⟩,
              ⟨0x4000, 0xFFFF, .unmapped⟩], true, .byRule⟩ }

/-- `mixed` with an operand byte 20 at 0010, decimal mode, and valid BCD in A. -/
def mixedDecimal : State := { mixed with a := 0x58, p := { mixed.p with d := true } }

theorem witness_DecodedBytesAreTheEncoding :
    decode [0xAD, 0x34, 0x12, 0xEA] = .ok (.ldaAbs 0x34 0x12, [0xEA]) := by decide

theorem witness_EveryOpcodeSelectsOneRow :
    (Instr.ldaImm 0x00).opcode = (Instr.ldaImm 0xFF).opcode ∧ (Instr.ldaImm 0xFF).opcode = 0xA9 ∧
    encode (.ldaImm 0xFF) <+: [0xA9, 0xFF, 0x00] := by decide

theorem witness_PlacedInstructionRunsNext : Memory.wf mixed.mem = true := by decide

theorem witness_StepRunsDecodedInstruction :
    nextEvent mixed.takeInput = .instruction ∧ fetchedBytes 2 mixed.takeInput = encode (.ldaImm 0x80) := by decide

/-- One state for each clause of the boundary. -/
theorem witness_BoundaryRecognition :
    ({ start with env := [⟨[.resetLine true], none⟩] } : State).takeInput.resetLine = true ∧
    (let u := ({ start with halted := true, irqLine := true } : State).takeInput
     u.resetLine = false ∧ u.halted = true) ∧
    (let u := ({ start with env := [⟨[.nmi], none⟩] } : State).takeInput
     u.resetLine = false ∧ u.halted = false ∧ u.nmiPending = true) ∧
    (let u := ({ start with env := [⟨[.irqLine true], none⟩] } : State).takeInput
     u.resetLine = false ∧ u.halted = false ∧ u.nmiPending = false ∧ u.irqLine = true ∧ u.p.i = false ∧
       u.iPrev = false) ∧
    (let u := ({ State.reset with irqLine := true } : State).takeInput
     u.resetLine = false ∧ u.halted = false ∧ u.nmiPending = false ∧ u.irqLine = true ∧ u.p.i = true ∧
       u.iPrev = true) ∧
    (let u := ({ start with irqLine := true, iPrev := true } : State).takeInput
     u.resetLine = false ∧ u.halted = false ∧ u.nmiPending = false ∧ u.irqLine = true ∧ u.p.i ≠ u.iPrev) ∧
    (let u := start.takeInput
     u.resetLine = false ∧ u.halted = false ∧ u.nmiPending = false ∧ u.irqLine = false) := by decide

theorem witness_EnvironmentSteps :
    start.halted = false ∧ ({ start with halted := true } : State).halted = true ∧ start.plat.soUsed = false ∧
    (mixed.plat.soUsed = true ∧ mixed.soLine = false) ∧
    (let s : State := { mixed with soLine := true }
     s.plat.soUsed = true ∧ s.soLine = true) ∧
    ({ start with env := [⟨[.nmi], some .irq⟩, ⟨[], none⟩] } : State).env = ⟨[.nmi], some .irq⟩ :: [⟨[], none⟩] ∧
    start.env = [] := by decide

/-- The clauses of `StoresExactly`, at S = 00 and at S = FF: a RAM stack page and a ROM stack page. -/
theorem witness_InterruptSequenceEffect :
    ((0xFFFA : Addr) = 0xFFFA ∨ (0xFFFA : Addr) = 0xFFFE) ∧ ((0xFFFE : Addr) = 0xFFFA ∨ (0xFFFE : Addr) = 0xFFFE) ∧
    (kindAt start.plat (stackAddr start.sp) = .ram ∧ kindAt start.plat (stackAddr 0x00) = .ram ∧
      Memory.wf start.mem = true) ∧
    kindAt mixed.plat (stackAddr mixed.sp) ≠ .ram ∧ kindAt mixed.plat (stackAddr 0x00) ≠ .ram := by decide

theorem witness_HaltedRunsChangeNothing :
    let s : State := { start with halted := true, env := [⟨[.nmi, .soLine true, .resetLine false], some .nmi⟩] }
    s.halted = true ∧ s.resetLine = false ∧ ∀ e ∈ s.env, EnvEvent.resetLine true ∉ e.before := by decide

theorem witness_BrkEntersTheIrqVector :
    start.during = none ∧
    (let s : State := { State.reset with during := some .irq }
     s.during = some .irq ∧ s.p.i = true) := by decide

theorem witness_BrkCollidesWithAnInterrupt :
    ({ start with during := some .nmi } : State).during = some .nmi ∧
    (let s : State := { start with during := some .irq }
     s.during = some .irq ∧ s.p.i = false) := by decide

theorem witness_InterruptThenRtiResumes : StackIsRam start.plat ∧ Memory.wf start.mem = true := ⟨fun _ => rfl, rfl⟩

theorem witness_JsrAndRtsEffects :
    kindAt start.plat (stackAddr start.sp) = .ram ∧ Memory.wf start.mem = true ∧
    kindAt mixed.plat (stackAddr mixed.sp) ≠ .ram := by decide

theorem witness_RtsReturnsAfterJsr : StackIsRam start.plat ∧ Memory.wf start.mem = true := ⟨fun _ => rfl, rfl⟩

/-- Read/modify/write accesses that run: in page zero, across a page, into RAM and into a device. -/
theorem witness_MemoryStepsWrapModulo256 :
    discardedReadBlocked .readModifyWrite (.zp 0xFF) mixed = false ∧
    discardedReadBlocked .readModifyWrite (.absX 0xFF 0x10) { mixed with x := 1 } = false ∧
    discardedReadBlocked .readModifyWrite (.absX 0xFF 0x30) { mixed with x := 0xFF } = false := by decide

theorem witness_ShiftsAslAndLsr :
    discardedReadBlocked .readModifyWrite (.zp 0x10) mixed = false ∧
    discardedReadBlocked .readModifyWrite (.absX 0x10 0x00) mixed = false := by decide

theorem witness_RotatesRolAndRor :
    discardedReadBlocked .readModifyWrite (.zp 0x10) mixed = false ∧
    discardedReadBlocked .readModifyWrite (.absX 0x10 0x00) mixed = false := by decide

/-- Class-read accesses that run: immediate, every kind of mode, an index that crosses a page and one that does not. -/
theorem witness_LogicAndOraEor :
    sourceBlocked (.immediate 0xFF) mixed = false ∧ sourceBlocked (.memory (.indX 0xFE)) mixed = false ∧
    sourceBlocked (.memory (.indY 0xFF)) mixed = false ∧ sourceBlocked (.memory (.abs 0x00 0x20)) mixed = false ∧
    sourceBlocked (.memory (.absX 0xFF 0x10)) { mixed with x := 1 } = false ∧
    sourceBlocked (.memory (.absY 0xFF 0x10)) { mixed with y := 0 } = false := by decide

theorem witness_BitTakesNAndVFromMemory :
    sourceBlocked (.memory (.zp 0x10)) mixed = false ∧ sourceBlocked (.memory (.abs 0xFF 0xFF)) mixed = false := by
  decide

theorem witness_AdcBinary :
    mixed.p.d = false ∧ sourceBlocked (.memory (.zp 0x10)) mixed = false ∧
    sourceBlocked (.memory (.absX 0x10 0x00)) mixed = false := by decide

theorem witness_SbcBinary :
    mixed.p.d = false ∧ sourceBlocked (.immediate 0xFF) mixed = false ∧
    sourceBlocked (.memory (.absY 0x10 0x00)) mixed = false := by decide

theorem witness_AdcDecimal :
    mixedDecimal.p.d = true ∧ sourceBlocked (.memory (.zp 0x10)) mixedDecimal = false ∧
    validBcd mixedDecimal.a = true ∧ validBcd (sourceValue (.memory (.zp 0x10)) mixedDecimal) = true ∧
    validBcd 0x99 = true ∧ validBcd 0x00 = true := by decide

theorem witness_SbcDecimal :
    mixedDecimal.p.d = true ∧ sourceBlocked (.memory (.absX 0x10 0x00)) mixedDecimal = false ∧
    validBcd mixedDecimal.a = true ∧ validBcd (sourceValue (.memory (.absX 0x10 0x00)) mixedDecimal) = true := by
  decide

theorem witness_ComparesAreUnsigned :
    sourceBlocked (.immediate 0x00) mixed = false ∧
    sourceBlocked (.memory (.absX 0xFF 0x30)) { mixed with x := 1 } = false := by decide

theorem witness_LoadsSetNAndZ :
    sourceBlocked (.immediate 0x80) mixed = false ∧ sourceBlocked (.memory (.zpY 0xFF)) mixed = false ∧
    sourceBlocked (.memory (.absY 0xFF 0xFF)) { mixed with y := 0xFF } = false := by decide

/-- Stores that run: into RAM with memory in canonical form, and into ROM. -/
theorem witness_StoresWriteOneByte :
    discardedReadBlocked .write (.zpY 0xFF) mixed = false ∧
    discardedReadBlocked .write (.absX 0xFF 0x10) { mixed with x := 1 } = false ∧
    (kindAt mixed.plat (effAddr (.zpY 0xFF) mixed) = .ram ∧ Memory.wf mixed.mem = true) ∧
    kindAt mixed.plat (effAddr (.abs 0x00 0x01) mixed) ≠ .ram := by decide

theorem witness_PushesPhaAndPhp :
    kindAt start.plat (stackAddr start.sp) = .ram ∧ Memory.wf start.mem = true ∧
    kindAt mixed.plat (stackAddr mixed.sp) ≠ .ram := by decide

theorem witness_SloRlaSreShiftThenCombine :
    discardedReadBlocked .readModifyWrite (.indX 0xFF) mixed = false ∧
    discardedReadBlocked .readModifyWrite (.absY 0x10 0x00) mixed = false := by decide

/-- Binary, and decimal with the rotated byte 10 a valid BCD number. -/
theorem witness_RraRotatesThenAdds :
    discardedReadBlocked .readModifyWrite (.zp 0x10) mixed = false ∧ mixed.p.d = false ∧
    (discardedReadBlocked .readModifyWrite (.zp 0x10) mixedDecimal = false ∧ mixedDecimal.p.d = true ∧
      validBcd mixedDecimal.a = true ∧
      (0x10 : Byte).toNat = (mixedDecimal.read .data (effAddr (.zp 0x10) mixedDecimal)).toNat / 2 +
        128 * bitVal mixedDecimal.p.c ∧ validBcd 0x10 = true) := by decide

theorem witness_DcpAndIscStepThenSubtract :
    discardedReadBlocked .readModifyWrite (.indY 0x10) mixed = false ∧ mixed.p.d = false ∧
    (discardedReadBlocked .readModifyWrite (.absX 0x10 0x00) mixedDecimal = false ∧ mixedDecimal.p.d = true ∧
      validBcd mixedDecimal.a = true ∧
      (0x21 : Byte).toNat = ((mixedDecimal.read .data (effAddr (.absX 0x10 0x00) mixedDecimal)).toNat + 1) % 256 ∧
      validBcd 0x21 = true) := by decide

theorem witness_LaxAndLasLoadSeveralRegisters :
    sourceBlocked (.immediate 0xFF) mixed = false ∧ sourceBlocked (.memory (.zpY 0x10)) mixed = false ∧
    sourceBlocked (.memory (.absY 0xFF 0x10)) { mixed with y := 1 } = false ∧
    unstableUse (.laxImm 0xFF) mixed = .rule ∧ unstableUse (.laxZpY 0x10) mixed = .rule := by decide

theorem witness_StoresWithTheHighAddressByte :
    discardedReadBlocked .write (.indY 0x10) mixed = false ∧
    discardedReadBlocked .write (.absY 0xFF 0xFF) { mixed with y := 1 } = false ∧
    discardedReadBlocked .write (.absX 0x00 0x12) mixed = false ∧
    unstableUse (.shaIndY 0x10) mixed = .rule ∧ unstableUse (.shaAbsY 0xFF 0xFF) mixed = .rule ∧
    unstableUse (.shyAbsX 0x00 0x12) mixed = .rule := by decide

theorem witness_ArrRotatesTheAnd :
    mixed.p.d = false ∧ mixedDecimal.p.d = true ∧ mixedDecimal.plat.unstable.arrDecimal = .rule := by decide

theorem witness_XaaDrawsItsResult :
    mixed.plat.unstable.xaa ≠ .refuse ∧ (unstableStart .draw).plat.unstable.xaa ≠ .refuse := by decide

theorem witness_UndocumentedNopsOnlyAdvance :
    (∀ m, Operand.memory (.absX 0xFF 0x10) = .memory m →
      discardedReadBlocked .read m { mixed with x := 1 } = false) ∧
    ∀ m, Operand.implied = .memory m → discardedReadBlocked .read m mixed = false := by
  refine ⟨fun m h => ?_, fun m h => ?_⟩
  · cases h; decide
  · cases h

theorem witness_JamHaltsTheCpu :
    let s : State := { start with halted := true }
    s.takeInput.halted = true ∧ s.takeInput.resetLine = false := by decide

/-- Refusals: by `UnstableOps`, and by D16 inside a device and through the extra read of real parts only. -/
theorem witness_RefusedExactlyWhereTheSpecSays :
    (exec (.shaIndY 0x10) (unstableStart .refuse) = .refused .unstableOpcode ∧
      unstableUse (.shaIndY 0x10) (unstableStart .refuse) = .refuse) ∧
    (exec (.ldaAbsX 0xFF 0x20) mixed = .refused .discardedReadOfDevice ∧
      unstableUse (.ldaAbsX 0xFF 0x20) mixed ≠ .refuse) ∧
    (Instr.ldaAbsX 0xFF 0x20).operand = .memory (.absX 0xFF 0x20) ∧
    accessClass (.ldaAbsX 0xFF 0x20) = some .read ∧ discardedReadBlocked .read (.absX 0xFF 0x20) mixed = true ∧
    discardedReadBlocked .write (.absY 0x00 0x20) { mixed with y := 0xFF } = true :=
  ⟨⟨rfl, rfl⟩, ⟨rfl, by decide⟩, rfl, rfl, rfl, rfl⟩

theorem witness_FlagsFollowTheFlagColumns :
    (∃ t, exec .plp mixed = .next t) ∧ (∃ t, exec (.ldaZp 0x10) mixed = .next t) ∧ ∃ t, exec .brk mixed = .next t :=
  ⟨⟨_, rfl⟩, ⟨_, rfl⟩, ⟨_, rfl⟩⟩

theorem witness_RegistersHaveOnlyTheirWriters :
    (∃ t, exec (.aslZp 0x10) mixed = .next t) ∧ (Instr.aslZp 0x10).mnemonic ∉ writersOfA ∧
    (Instr.aslZp 0x10).operand ≠ .accumulator ∧ (Instr.aslZp 0x10).mnemonic ∉ writersOfX ∧
    (Instr.aslZp 0x10).mnemonic ∉ writersOfY ∧ (Instr.aslZp 0x10).mnemonic ∉ writersOfS :=
  ⟨⟨_, rfl⟩, by decide, by decide, by decide, by decide, by decide⟩

/-- An address next to the one stored to, the addresses beside the three pushed bytes, and an address that is not RAM. -/
theorem witness_InstructionsStoreOnlyAtTheirAddresses :
    (∃ t, exec (.staZp 0x10) mixed = .next t) ∧ 0x0011 ∉ storedAddrs (.staZp 0x10) mixed ∧
    (∃ t, exec .brk start = .next t) ∧ 0x0200 ∉ storedAddrs .brk start ∧ 0x01FC ∉ storedAddrs .brk start ∧
    kindAt mixed.plat 0x0100 ≠ .ram :=
  ⟨⟨_, rfl⟩, by decide, ⟨_, rfl⟩, by decide, by decide, by decide⟩

theorem witness_InstructionsKeepLinesAndHiddenState :
    (∃ t, exec .jam02 start = .next t ∧ Instr.jam02.mnemonic ≠ .brk) ∧
    (∃ t, exec .brk start = .next t ∧ start.during ≠ some .nmi) ∧
    (∃ t, exec .cli start = .next t ∧ Instr.cli.mnemonic ∈ [Mnemonic.cli, .sei, .plp]) ∧
    ∃ t, exec .rti start = .next t ∧ Instr.rti.mnemonic ∉ [Mnemonic.cli, .sei, .plp] :=
  ⟨⟨_, rfl, by decide⟩, ⟨_, rfl, by decide⟩, ⟨_, rfl, by decide⟩, ⟨_, rfl, by decide⟩⟩

theorem witness_StepKeepsInvariant :
    let s : State := { mixed with halted := true, env := [⟨[.nmi], none⟩] }
    Inv s ∧ (∃ t, step s = .next t) ∧ Inv mixed ∧ ∃ t, step mixed = .next t :=
  ⟨⟨rfl, fun _ => rfl⟩, ⟨_, rfl⟩, ⟨rfl, fun h => by cases h⟩, ⟨_, rfl⟩⟩

theorem witness_RunsNeverStop :
    NoReadEffects start.plat ∧ NoUnstableRefusal start.plat.unstable ∧
    NoUnstableRefusal (unstableStart .draw).plat.unstable :=
  ⟨fun _ h => (by cases h), (by unfold NoUnstableRefusal; decide), (by unfold NoUnstableRefusal; decide)⟩

/-- One instruction of each class in each of the two modes. -/
theorem witness_EffectiveAddresses :
    ((Instr.ldaAbsX 0xFF 0x10).operand = .memory (.absX 0xFF 0x10) ∧ (Instr.ldaAbsX 0xFF 0x10).mnemonic = .lda) ∧
    ((Instr.staAbsY 0xFF 0xFF).operand = .memory (.absY 0xFF 0xFF) ∧ (Instr.staAbsY 0xFF 0xFF).mnemonic = .sta) ∧
    ((Instr.incAbsX 0x00 0x00).operand = .memory (.absX 0x00 0x00) ∧ (Instr.incAbsX 0x00 0x00).mnemonic = .inc) := by
  decide

theorem witness_CyclesCountPageCrossings :
    instrTiming (.staAbsX 0xFF 0x10) = .fixed 5 ∧ instrTiming .brk = .fixed 7 := by decide

/-- Each clause: a draw, stores in RAM with memory in canonical form and in ROM, and a refusal. -/
theorem witness_UnstableOpsParameter :
    (let s : State := { unstableStart .draw with p := { start.p with d := true } }
     s.plat.unstable.laxImm = .draw ∧ s.plat.unstable.shaIndY = .draw ∧ s.plat.unstable.shaAbsY = .draw ∧
     s.plat.unstable.shxAbsY = .draw ∧ s.plat.unstable.shyAbsX = .draw ∧ s.plat.unstable.shsAbsY = .draw ∧
     discardedReadBlocked .write (.indY 0x10) s = false ∧ discardedReadBlocked .write (.absY 0xFF 0xFF) s = false ∧
     discardedReadBlocked .write (.absX 0x00 0x12) s = false ∧
     kindAt s.plat (effAddr (.indY 0x10) s) = .ram ∧ Memory.wf s.mem = true ∧
     s.plat.unstable.arrDecimal = .draw ∧ s.p.d = true) ∧
    (let s : State := { mixed with plat := { mixed.plat with unstable := allUnstable .draw } }
     s.plat.unstable.shaAbsY = .draw ∧ discardedReadBlocked .write (.absY 0x00 0x01) s = false ∧
     kindAt s.plat (effAddr (.absY 0x00 0x01) s) ≠ .ram) ∧
    (let s : State := { unstableStart .refuse with p := { start.p with d := true } }
     s.plat.unstable.xaa = .refuse ∧ s.plat.unstable.laxImm = .refuse ∧ s.plat.unstable.shaIndY = .refuse ∧
     s.plat.unstable.shaAbsY = .refuse ∧ s.plat.unstable.shxAbsY = .refuse ∧ s.plat.unstable.shyAbsX = .refuse ∧
     s.plat.unstable.shsAbsY = .refuse ∧ s.plat.unstable.arrDecimal = .refuse ∧ s.p.d = true) := by decide

/-- An address of each kind, at the edges of its region. -/
theorem witness_MemoryPrimitives :
    (kindAt mixed.plat 0x00FF = .ram ∧ Memory.wf mixed.mem = true) ∧ kindAt mixed.plat 0x0100 = .rom ∧
    kindAt mixed.plat 0x01FF = .rom ∧ kindAt mixed.plat 0x0200 = .ram ∧
    (kindAt mixed.plat 0x2000 ≠ .ram ∧ kindAt mixed.plat 0x2000 ≠ .rom) ∧
    (kindAt mixed.plat 0xFFFF ≠ .ram ∧ kindAt mixed.plat 0xFFFF ≠ .rom) := by decide


end Sys2Proof.Tests
end

/-! PROOFS. The scope of the model (00_scope.md): a step runs the instruction at PC, what an instruction can answer,
runs of every length, and the parameter `UnstableOps`. -/

namespace Sys2Proof.Machine

/-! ### The decoder on an encoded instruction -/

/-- The decoder reads an instruction back from its opcode and its operand bytes, whatever bytes stand after them
(R81, R83, R88). -/
theorem decodeOpcode_encode (i : Instr) (c1 c2 : Byte) :
    decodeOpcode i.opcode (i.operand.bytes.getD 0 c1) (i.operand.bytes.getD 1 c2) = i := by
  cases i <;> dsimp only [Instr.opcode] <;> rfl

/-- Three bytes that begin with an instruction's encoding decode to it. -/
theorem decodeOpcode_of_take_eq_encode {i : Instr} {op b1 b2 : Byte}
    (h : [op, b1, b2].take i.length = encode i) : decodeOpcode op b1 b2 = i := by
  have hlen : i.length = i.operand.bytes.length + 1 := Nat.add_comm _ _
  rw [hlen, List.take_succ_cons, encode, List.cons.injEq] at h
  obtain ⟨hop, hbytes⟩ := h
  have hb1 : i.operand.bytes.getD 0 b1 = b1 := by
    rw [← hbytes]; cases i.operand.bytes.length <;> rfl
  have hb2 : i.operand.bytes.getD 1 b2 = b2 := by
    rw [← hbytes]; rcases i.operand.bytes.length with _ | _ | _ <;> rfl
  have hi := decodeOpcode_encode i b1 b2
  rwa [hb1, hb2, ← hop] at hi

/-- The fetch decodes the instruction whose encoding stands at PC (R12). -/
theorem fetch_of_fetchedBytes {s : State} {i : Instr} (h : fetchedBytes i.length s = encode i) : fetch s = i :=
  decodeOpcode_of_take_eq_encode h

/-- Where no event is taken, the CPU executes the fetched instruction (R270). -/
theorem cpuStep_of_instruction {s : State} (h : nextEvent s = .instruction) : cpuStep s = exec (fetch s) s := by
  simp only [cpuStep, h]

/-- Settles O6, from the decoder's reading of an encoded instruction. -/
theorem stepRunsDecodedInstruction : Obligations.StepRunsDecodedInstruction := by
  intro s i hevent hbytes
  calc step s = exec (fetch s.takeInput) s.takeInput := cpuStep_of_instruction hevent
    _ = exec i s.takeInput := by rw [fetch_of_fetchedBytes hbytes]

/-! ### What an instruction can answer -/

/-- All that an instruction can answer on the platform `p`, where `UnstableOps` says `u` of it: a next state on the
same platform, or one of two refusals with its ground (R58, D16; R5, R230). -/
inductive Answers (u : UnstableUse) (p : Platform) : Result → Prop
  | next {t : State} (hplat : t.plat = p) : Answers u p (.next t)
  | discardedRead (hdevice : ¬ NoReadEffects p) : Answers u p (.refused .discardedReadOfDevice)
  | unstable (huse : u = .refuse) : Answers u p (.refused .unstableOpcode)

/-- On a platform without side-effect reads no address has one (R52). -/
theorem readHasEffect_of_noReadEffects {s : State} (h : NoReadEffects s.plat) (a : Addr) :
    readHasEffect a s = false := by
  unfold readHasEffect
  split
  · next e hkind => exact Bool.eq_false_iff.mpr fun he => h a (he ▸ hkind)
  all_goals rfl

/-- D16 refuses an access only where some device has side-effect reads. -/
theorem not_noReadEffects_of_blocked {c : AccessClass} {m : MemMode} {s : State}
    (h : discardedReadBlocked c m s = true) : ¬ NoReadEffects s.plat := by
  intro hplat
  simp [discardedReadBlocked_eq_false (readHasEffect_of_noReadEffects hplat)] at h

/-- D16 refuses an operand's read only where some device has side-effect reads. -/
theorem not_noReadEffects_of_sourceBlocked {src : Source} {s : State} (h : sourceBlocked src s = true) :
    ¬ NoReadEffects s.plat := by
  cases src with
  | immediate _ => cases h
  | memory _ => exact not_noReadEffects_of_blocked h

@[simp] theorem State.interruptSequence_plat (ret vector : Addr) (b : Bool) (s : State) :
    (s.interruptSequence ret vector b).plat = s.plat := by
  simp [State.interruptSequence]

@[simp] theorem State.brk_plat (s : State) : s.brk.plat = s.plat := by
  unfold State.brk
  split <;> exact State.interruptSequence_plat ..

@[simp] theorem State.jsr_plat (target : Addr) (s : State) : (s.jsr target).plat = s.plat := by
  simp [State.jsr]

section
variable {u : UnstableUse} (s : State)

theorem readClass_answers {src : Source} {f : Byte → State → State} (hf : ∀ v t, (f v t).plat = t.plat) :
    Answers u s.plat (readClass src f s) := by
  unfold readClass
  split
  · next hblocked => exact .discardedRead (not_noReadEffects_of_sourceBlocked hblocked)
  · exact .next (hf _ s)

theorem writeClass_answers {m : MemMode} {v : Byte} : Answers u s.plat (writeClass m v s) := by
  unfold writeClass
  split
  · next hblocked => exact .discardedRead (not_noReadEffects_of_blocked hblocked)
  · exact .next (State.write_plat _ v s)

theorem rmwClass_answers {m : MemMode} {f : Byte → State → Byte × State} (hf : ∀ v t, (f v t).2.plat = t.plat) :
    Answers u s.plat (rmwClass m f s) := by
  unfold rmwClass
  split
  · next hblocked => exact .discardedRead (not_noReadEffects_of_blocked hblocked)
  · exact .next ((State.write_plat _ _ _).trans (hf _ s))

theorem accumulatorClass_answers {f : Byte → State → Byte × State} (hf : ∀ v t, (f v t).2.plat = t.plat) :
    Answers u s.plat (accumulatorClass f s) :=
  .next (hf _ s)

theorem impliedClass_answers {f : State → State} (hf : ∀ t, (f t).plat = t.plat) :
    Answers u s.plat (impliedClass f s) :=
  .next (hf s)

theorem byUnstableUse_answers {byRule byDraw : Result} (hrule : Answers u s.plat byRule)
    (hdraw : Answers u s.plat byDraw) : Answers u s.plat (byUnstableUse u byRule byDraw) := by
  cases u with
  | rule => exact hrule
  | draw => exact hdraw
  | refuse => exact .unstable rfl

theorem unstableStore_answers {m : MemMode} {v : Byte} : Answers u s.plat (unstableStore u m v s) :=
  byUnstableUse_answers s (writeClass_answers s) (writeClass_answers s)

end

/-- What every instruction can answer, class by class (R11, R90, R114). -/
theorem exec_answers (i : Instr) (s : State) : Answers (unstableUse i s) s.plat (exec i s) := by
  unfold exec
  cases i with
  | brk => exact .next s.brk_plat
  | jsrAbs b1 b2 => exact .next (s.jsr_plat _)
  | jmpAbs _ _ | jmpInd _ _ | rts | rti | cli | sei | plp
  | jam02 | jam12 | jam22 | jam32 | jam42 | jam52 | jam62 | jam72 | jam92 | jamB2 | jamD2 | jamF2
  | bpl _ | bmi _ | bvc _ | bvs _ | bcc _ | bcs _ | bne _ | beq _ => exact .next rfl
  | pha | php => exact impliedClass_answers s fun t => t.push_plat _
  | clc | sec | clv | cld | sed | pla | dex | dey | inx | iny | tax | tay | tsx | txa | txs | tya
  | nop | nop1A | nop3A | nop5A | nop7A | nopDA | nopFA => exact impliedClass_answers s fun _ => rfl
  | aslA | lsrA | rolA | rorA => exact accumulatorClass_answers s fun _ _ => rfl
  | staZp _ | staZpX _ | staAbs _ _ | staAbsX _ _ | staAbsY _ _ | staIndX _ | staIndY _
  | stxZp _ | stxZpY _ | stxAbs _ _ | styZp _ | styZpX _ | styAbs _ _
  | saxZp _ | saxZpY _ | saxAbs _ _ | saxIndX _ => exact writeClass_answers s
  | aslZp _ | aslZpX _ | aslAbs _ _ | aslAbsX _ _ | lsrZp _ | lsrZpX _ | lsrAbs _ _ | lsrAbsX _ _
  | rolZp _ | rolZpX _ | rolAbs _ _ | rolAbsX _ _ | rorZp _ | rorZpX _ | rorAbs _ _ | rorAbsX _ _
  | decZp _ | decZpX _ | decAbs _ _ | decAbsX _ _ | incZp _ | incZpX _ | incAbs _ _ | incAbsX _ _
  | sloZp _ | sloZpX _ | sloAbs _ _ | sloAbsX _ _ | sloAbsY _ _ | sloIndX _ | sloIndY _
  | rlaZp _ | rlaZpX _ | rlaAbs _ _ | rlaAbsX _ _ | rlaAbsY _ _ | rlaIndX _ | rlaIndY _
  | sreZp _ | sreZpX _ | sreAbs _ _ | sreAbsX _ _ | sreAbsY _ _ | sreIndX _ | sreIndY _
  | rraZp _ | rraZpX _ | rraAbs _ _ | rraAbsX _ _ | rraAbsY _ _ | rraIndX _ | rraIndY _
  | dcpZp _ | dcpZpX _ | dcpAbs _ _ | dcpAbsX _ _ | dcpAbsY _ _ | dcpIndX _ | dcpIndY _
  | iscZp _ | iscZpX _ | iscAbs _ _ | iscAbsX _ _ | iscAbsY _ _ | iscIndX _ | iscIndY _ =>
    exact rmwClass_answers s fun _ _ => rfl
  | xaaImm _ | laxImm _ | arrImm _ =>
    exact byUnstableUse_answers s (readClass_answers s fun _ _ => rfl) (readClass_answers s fun _ _ => rfl)
  | shaIndY _ | shaAbsY _ _ | shxAbsY _ _ | shyAbsX _ _ => exact unstableStore_answers s
  | shsAbsY b1 b2 => exact unstableStore_answers { s with sp := s.a &&& s.x }
  | _ => exact readClass_answers s fun _ _ => rfl

/-! ### Runs go on -/

/-- Where `UnstableOps` refuses no opcode, it refuses no instruction (R5). -/
theorem unstableUse_ne_refuse {s : State} (h : NoUnstableRefusal s.plat.unstable) (i : Instr) :
    unstableUse i s ≠ .refuse := by
  simp only [NoUnstableRefusal, List.forall_mem_cons] at h
  obtain ⟨hxaa, hlaxImm, hshaIndY, hshaAbsY, hshxAbsY, hshyAbsX, hshsAbsY, harrDecimal, -⟩ := h
  unfold unstableUse
  cases i with
  | xaaImm _ => exact hxaa
  | laxImm _ => exact hlaxImm
  | shaIndY _ => exact hshaIndY
  | shaAbsY _ _ => exact hshaAbsY
  | shxAbsY _ _ => exact hshxAbsY
  | shyAbsX _ _ => exact hshyAbsX
  | shsAbsY _ _ => exact hshsAbsY
  | arrImm _ =>
    show (if s.p.d then s.plat.unstable.arrDecimal else .rule) ≠ .refuse
    split
    · exact harrDecimal
    · exact nofun
  | _ => exact nofun

/-- Where neither ground of a refusal holds, an answer is a next state on the same platform. -/
theorem Answers.exists_next {u : UnstableUse} {p : Platform} {r : Result} (h : Answers u p r)
    (hreads : NoReadEffects p) (huse : u ≠ .refuse) : ∃ t, r = .next t ∧ t.plat = p := by
  cases h with
  | next hplat => exact ⟨_, rfl, hplat⟩
  | discardedRead hdevice => exact absurd hreads hdevice
  | unstable hrefuse => exact absurd hrefuse huse

@[simp] theorem State.takeInput_plat (s : State) : s.takeInput.plat = s.plat := by
  obtain ⟨_, _, _, _, _, _, _, hs⟩ := takeInput_frame s
  rw [hs]

/-- No event at a boundary stops the machine, and none changes the platform (R11, R90, R260). -/
theorem step_answers_next {s : State} (hreads : NoReadEffects s.plat) (hops : NoUnstableRefusal s.plat.unstable) :
    ∃ t, step s = .next t ∧ t.plat = s.plat := by
  rw [← s.takeInput_plat] at hreads hops ⊢
  obtain ⟨-, hstep⟩ | ⟨-, hstep⟩ | ⟨-, hstep⟩ | ⟨-, hstep⟩ | ⟨-, hstep⟩ := cpuStep_cases s.takeInput
  · exact ⟨_, hstep, State.resetSequence_plat _⟩
  · exact ⟨_, hstep, rfl⟩
  · exact ⟨_, hstep, State.interruptSequence_plat ..⟩
  · exact ⟨_, hstep, State.interruptSequence_plat ..⟩
  · obtain ⟨t, hexec, hplat⟩ :=
      (exec_answers (fetch s.takeInput) s.takeInput).exists_next hreads (unstableUse_ne_refuse hops _)
    exact ⟨t, hstep.trans hexec, hplat⟩

/-- A run of `k + 1` steps goes on when the first step answers a next state from which `k` steps go on. -/
theorem RunsOn.of_step {k : Nat} {s t : State} (hstep : step s = .next t) (hrun : RunsOn k t) : RunsOn (k + 1) s := by
  obtain ⟨u, hu⟩ := hrun
  refine ⟨u, ?_⟩
  have hcore : core.step s = .next t := hstep
  simpa only [Host.Core.run, hcore] using hu

/-- Settles O54, by induction on the number of steps; every step keeps the platform, and so the hypotheses. -/
theorem runsNeverStop : Obligations.RunsNeverStop := by
  intro k
  induction k with
  | zero => exact fun s _ _ => ⟨s, rfl⟩
  | succ k ih =>
    intro s hreads hops
    obtain ⟨t, hstep, hplat⟩ := step_answers_next hreads hops
    rw [← hplat] at hreads hops
    exact .of_step hstep (ih t hreads hops)

/-! ### The parameter `UnstableOps` -/

/-- `SetNZ` in the statements' terms: bit 7, and whether the byte is 0 (R10). -/
theorem Status.setNZ_eq (p : Status) (v : Byte) :
    p.setNZ v = { p with n := v.getLsbD 7, z := decide (v = 0) } := by
  rw [Status.setNZ, BitVec.msb_eq_getLsbD_last, beq_eq_decide]

/-- A write stores its byte at its address and nowhere else (R53). -/
theorem storesExactly_write (a : Addr) (v : Byte) (s : State) : StoresExactly s (s.write a v) [(a, v)] := by
  simp only [StoresExactly, List.forall_mem_singleton]
  exact ⟨fun b hb => State.byteAt_write_other v hb s, fun hram hwf => State.byteAt_write_same v hram hwf,
    fun hrom => State.byteAt_write_noRam v hrom a⟩

theorem byUnstableUse_of_draw {u : UnstableUse} {byRule byDraw : Result} (h : u = .draw) :
    byUnstableUse u byRule byDraw = byDraw := by
  rw [h, byUnstableUse]

theorem byUnstableUse_of_refuse {u : UnstableUse} {byRule byDraw : Result} (h : u = .refuse) :
    byUnstableUse u byRule byDraw = .refused .unstableOpcode := by
  rw [h, byUnstableUse]

/-- A store of class fragile under a draw: some byte at the effective address and nowhere else (R230, U8). -/
theorem unstableStore_of_draw {u : UnstableUse} {m : MemMode} {s : State} (w : Byte) (hu : u = .draw)
    (hblocked : discardedReadBlocked .write m s = false) :
    ∃ (v : Byte) (t : State), unstableStore u m w s = .next t ∧ StoresExactly s t [(effAddr m s, v)] ∧
      t = { s with mem := t.mem }.retire m.length := by
  refine ⟨s.unstableByte, (s.write (effAddr m s) s.unstableByte).retire m.length, ?_,
    storesExactly_write _ s.unstableByte s, ?_⟩
  · rw [unstableStore, byUnstableUse_of_draw hu, writeClass_eq_next]
    exact ⟨hblocked, rfl⟩
  · exact congrArg (State.retire m.length) (State.write_eq _ _ s)

/-- SHS under a draw stores as the others do, after S has taken A AND X (R246). -/
theorem exec_shsAbsY_of_draw {s : State} (b1 b2 : Byte) (hu : s.plat.unstable.shsAbsY = .draw)
    (hblocked : discardedReadBlocked .write (.absY b1 b2) s = false) :
    ∃ (v : Byte) (t : State), exec (.shsAbsY b1 b2) s = .next t ∧
      StoresExactly s t [(effAddr (.absY b1 b2) s, v)] ∧
      t = { s with mem := t.mem, sp := s.a &&& s.x }.retire (MemMode.absY b1 b2).length :=
  unstableStore_of_draw (m := .absY b1 b2) (s := { s with sp := s.a &&& s.x })
    (s.a &&& s.x &&& highPlusOne (.absY b1 b2) s) hu hblocked

/-- LAX #d8 under a draw is LAX of a free byte (R238, U2). -/
theorem exec_laxImm_of_draw {s : State} (b1 : Byte) (h : s.plat.unstable.laxImm = .draw) :
    exec (.laxImm b1) s = .next ((s.lax s.unstableByte).retire 2) :=
  byUnstableUse_of_draw h

/-- ARR with D = 1 under a draw is the rule's flags with a free byte in A (R232, U9). -/
theorem exec_arrImm_of_draw {s : State} (b1 : Byte) (h : s.plat.unstable.arrDecimal = .draw) (hd : s.p.d = true) :
    exec (.arrImm b1) s = .next ((s.arrDrawn b1).retire 2) :=
  byUnstableUse_of_draw (by rw [if_pos hd, h])

/-- ROR as a number: half the byte, with the carry in bit 7 (R144). -/
theorem rorByte_toNat (v : Byte) (c : Bool) : (rorByte v c).1.toNat = v.toNat / 2 + 128 * bitVal c := by
  have hcarry : (BitVec.ofNat 8 (bitVal c) <<< 7).toNat = 2 ^ 7 * bitVal c := by cases c <;> rfl
  have hhalf : v.toNat / 2 < 2 ^ 7 := by omega
  calc (rorByte v c).1.toNat = v.toNat / 2 ||| 2 ^ 7 * bitVal c := by
        rw [rorByte, BitVec.toNat_or, hcarry, BitVec.toNat_ushiftRight, Nat.shiftRight_eq_div_pow, pow_one]
    _ = 2 ^ 7 * bitVal c + v.toNat / 2 := by rw [Nat.or_comm, Nat.two_pow_add_eq_or_of_lt hhalf]
    _ = v.toNat / 2 + 128 * bitVal c := Nat.add_comm _ _

/-- The high nibble of a byte, in place. -/
theorem toNat_and_F0 (v : Byte) : (v &&& 0xF0).toNat = 16 * (v.toNat / 16) := by
  revert v; decide

/-- Bit 4 of a byte, in place. -/
theorem toNat_and_10 (v : Byte) : (v &&& 0x10).toNat = 16 * (v.toNat / 16 % 2) := by
  revert v; decide

/-- ARR with D = 1 in the statements' terms (R232, D28). -/
theorem State.arr_of_decimal {s : State} (m : Byte) (hd : s.p.d = true) :
    let t := s.a &&& m
    let q := (rorByte t s.p.c).1
    s.arr m = { s with a := q, p := { s.p with
      n := q.getLsbD 7, z := decide (q = 0), v := decide (q.getLsbD 6 ≠ t.getLsbD 6),
      c := decide (0x50 < 16 * (t.toNat / 16) + 16 * (t.toNat / 16 % 2)) } } := by
  simp only [State.arr, Status.setNZ_eq, hd, if_true, toNat_and_F0, toNat_and_10, bne, beq_eq_decide, decide_not,
    ne_eq]

/-- Settles O59, clause by clause from what `byUnstableUse` does under a draw and under a refusal. -/
theorem unstableOpsParameter : Obligations.UnstableOpsParameter := by
  intro b1 b2 s
  refine ⟨?laxDraw, ?storeDraw, ?arrDraw, ?refuse, ?arrRefuse⟩
  case laxDraw =>
    intro hu
    refine ⟨s.unstableByte, ?_⟩
    rw [exec_laxImm_of_draw b1 hu, State.lax, Status.setNZ_eq]
  case storeDraw =>
    simp only [List.forall_mem_cons]
    refine ⟨unstableStore_of_draw _, unstableStore_of_draw _, unstableStore_of_draw _, unstableStore_of_draw _,
      exec_shsAbsY_of_draw b1 b2, List.forall_mem_nil _⟩
  case arrDraw =>
    intro hu hd
    refine ⟨s.unstableByte, (rorByte (s.a &&& b1) s.p.c).1, rorByte_toNat _ _, ?_⟩
    rw [exec_arrImm_of_draw b1 hu hd, State.arrDrawn, State.arr_of_decimal b1 hd]
  case refuse =>
    simp only [List.forall_mem_cons]
    exact ⟨byUnstableUse_of_refuse, byUnstableUse_of_refuse, byUnstableUse_of_refuse, byUnstableUse_of_refuse,
      byUnstableUse_of_refuse, byUnstableUse_of_refuse, byUnstableUse_of_refuse, List.forall_mem_nil _⟩
  case arrRefuse =>
    intro hu hd
    exact byUnstableUse_of_refuse (by rw [if_pos hd, hu])

end Sys2Proof.Machine

/-! PROOFS. The state (10_state.md): the flag columns of R38, the hidden state of R39 to R41, the invariant of every
step, and the environment's steps. One frame, `ExecFrame`, says of every instruction what it does to P, to the hidden
state and to the form of memory; the statements follow from it. -/

namespace Sys2Proof.Machine

/-! ### Flag columns as equations -/

/-- The value of a flag after an instruction that uses it so; a written flag has the value found there (R14). -/
def FlagUse.result (u : FlagUse) (before after : Bool) : Bool :=
  match u with
  | .kept => before
  | .written => after
  | .cleared => false
  | .set => true

/-- P after an instruction with this flag column, where the written flags are those of `q`. Unlike
`FlagColumn.Holds`, the equation `q = u.result p q` holds by computation for each instruction. -/
def FlagColumn.result (u : FlagColumn) (p q : Status) : Status where
  n := u.n.result p.n q.n
  v := u.v.result p.v q.v
  d := u.d.result p.d q.d
  i := u.i.result p.i q.i
  z := u.z.result p.z q.z
  c := u.c.result p.c q.c

theorem FlagUse.holds_of_eq_result {u : FlagUse} {before after : Bool} (h : after = u.result before after) :
    u.Holds before after := by
  cases u with
  | written => trivial
  | kept | cleared | set => exact h

theorem FlagColumn.holds_of_eq_result {u : FlagColumn} {p q : Status} (h : q = u.result p q) : u.Holds p q :=
  ⟨FlagUse.holds_of_eq_result (congrArg Status.n h), FlagUse.holds_of_eq_result (congrArg Status.v h),
    FlagUse.holds_of_eq_result (congrArg Status.d h), FlagUse.holds_of_eq_result (congrArg Status.i h),
    FlagUse.holds_of_eq_result (congrArg Status.z h), FlagUse.holds_of_eq_result (congrArg Status.c h)⟩

/-! ### The hidden state -/

/-- The state that a program cannot read (R39, R40, R41), but for `iPrev`, and the model's own fields. -/
structure HiddenState where
  halted : Bool
  nmiPending : Bool
  irqLine : Bool
  resetLine : Bool
  soLine : Bool
  plat : Platform
  env : List EnvInput
  during : Option Interrupt
  draws : Nat

def State.hidden (s : State) : HiddenState where
  halted := s.halted
  nmiPending := s.nmiPending
  irqLine := s.irqLine
  resetLine := s.resetLine
  soLine := s.soLine
  plat := s.plat
  env := s.env
  during := s.during
  draws := s.draws

@[simp] theorem State.write_hidden (a : Addr) (v : Byte) (s : State) : (s.write a v).hidden = s.hidden := by
  simp [State.hidden]

@[simp] theorem State.push_hidden (v : Byte) (s : State) : (s.push v).hidden = s.hidden := by
  simp [State.hidden]

@[simp] theorem State.endAt_hidden (pc : Addr) (s : State) :
    (s.endAt pc).hidden = { s.hidden with draws := s.draws + 1 } := rfl

theorem State.interruptSequence_hidden (ret vector : Addr) (b : Bool) (s : State) :
    (s.interruptSequence ret vector b).hidden = { s.hidden with draws := s.draws + 1 } := by
  simp [State.hidden, State.interruptSequence]

/-- `halted` after an instruction: JAM sets it (R39). -/
def haltedAfter (m : Mnemonic) (before : Bool) : Bool :=
  match m with
  | .jam => true
  | _ => before

/-- The NMI latch after an instruction: a BRK takes an NMI that collides with it (R271). -/
def latchAfter (m : Mnemonic) (s : State) : Bool :=
  match m with
  | .brk => s.nmiPending && s.during != some .nmi
  | _ => s.nmiPending

/-- `iPrev` after an instruction, by I before and after it: CLI, SEI and PLP leave the I from before (R40). -/
def iPrevAfter (m : Mnemonic) (before after : Bool) : Bool :=
  match m with
  | .cli | .sei | .plp => before
  | _ => after

/-- The hidden state after an instruction; the free values of the next step are new ones (log 6). -/
def hiddenAfter (m : Mnemonic) (s : State) : HiddenState :=
  { s.hidden with halted := haltedAfter m s.halted, nmiPending := latchAfter m s, draws := s.draws + 1 }

theorem haltedAfter_eq (m : Mnemonic) (before : Bool) : haltedAfter m before = (before || decide (m = .jam)) := by
  unfold haltedAfter
  split
  · simp
  · next hm => rw [decide_eq_false hm, Bool.or_false]

theorem latchAfter_of_no_collision {m : Mnemonic} {s : State} (h : m ≠ .brk ∨ s.during ≠ some .nmi) :
    latchAfter m s = s.nmiPending := by
  unfold latchAfter
  split
  · have hno : s.during ≠ some .nmi := h.resolve_left fun hne => hne rfl
    simp [hno]
  · rfl

/-- No instruction sets the latch (R40). -/
theorem latchAfter_of_not_pending {m : Mnemonic} {s : State} (h : s.nmiPending = false) : latchAfter m s = false := by
  unfold latchAfter
  split
  · rw [h, Bool.false_and]
  · exact h

theorem iPrevAfter_of_mem {m : Mnemonic} (h : m ∈ [Mnemonic.cli, .sei, .plp]) (before after : Bool) :
    iPrevAfter m before after = before := by
  simp only [List.mem_cons, List.not_mem_nil, or_false] at h
  obtain rfl | rfl | rfl := h <;> rfl

theorem iPrevAfter_of_not_mem {m : Mnemonic} (h : m ∉ [Mnemonic.cli, .sei, .plp]) (before after : Bool) :
    iPrevAfter m before after = after := by
  unfold iPrevAfter
  split
  · simp at h
  · simp at h
  · simp at h
  · rfl

/-! ### What every instruction does to P, memory and the hidden state -/

/-- The frame of an instruction that leads from `s` to `t`. It does not speak of PC, so an instruction's effect has it
wherever PC goes at the end; the lemmas below ask for that, class by class. -/
structure ExecFrame (i : Instr) (s t : State) : Prop where
  flags : t.p = (flagColumn i.mnemonic).result s.p t.p
  memory : Memory.wf s.mem = true → Memory.wf t.mem = true
  hidden : t.hidden = hiddenAfter i.mnemonic s
  iPrev : t.iPrev = iPrevAfter i.mnemonic s.p.i t.p.i

section
variable {i : Instr} {s t u : State}

/-- A store before the end of an instruction is inside its frame. -/
theorem ExecFrame.write_endAt {a : Addr} {v : Byte} (h : ∀ pc, ExecFrame i s (u.endAt pc)) (pc : Addr) :
    ExecFrame i s ((u.write a v).endAt pc) where
  flags := by simpa using (h pc).flags
  memory hwf := State.write_mem_wf a v ((h pc).memory hwf)
  hidden := by simpa using (h pc).hidden
  iPrev := by simpa using (h pc).iPrev

/-- A push before the end of an instruction is inside its frame. -/
theorem ExecFrame.push_endAt {v : Byte} (h : ∀ pc, ExecFrame i s (u.endAt pc)) (pc : Addr) :
    ExecFrame i s ((u.push v).endAt pc) where
  flags := by simpa using (h pc).flags
  memory hwf := State.push_mem_wf v ((h pc).memory hwf)
  hidden := by simpa using (h pc).hidden
  iPrev := by simpa using (h pc).iPrev

theorem readClass_frame {src : Source} {f : Byte → State → State} (h : readClass src f s = .next t)
    (hf : ∀ v pc, ExecFrame i s ((f v s).endAt pc)) : ExecFrame i s t := by
  obtain ⟨-, rfl⟩ := readClass_eq_next.mp h
  exact hf _ _

theorem writeClass_frame {m : MemMode} {v : Byte} (h : writeClass m v u = .next t)
    (hu : ∀ pc, ExecFrame i s (u.endAt pc)) : ExecFrame i s t := by
  obtain ⟨-, rfl⟩ := writeClass_eq_next.mp h
  exact .write_endAt hu _

theorem rmwClass_frame {m : MemMode} {f : Byte → State → Byte × State} (h : rmwClass m f s = .next t)
    (hf : ∀ v pc, ExecFrame i s ((f v s).2.endAt pc)) : ExecFrame i s t := by
  obtain ⟨-, rfl⟩ := rmwClass_eq_next.mp h
  exact .write_endAt (hf _) _

theorem accumulatorClass_frame {f : Byte → State → Byte × State} (h : accumulatorClass f s = .next t)
    (hf : ∀ v a pc, ExecFrame i s ({ (f v s).2 with a := a }.endAt pc)) : ExecFrame i s t := by
  obtain rfl := accumulatorClass_eq_next.mp h
  exact hf _ _ _

theorem impliedClass_frame {f : State → State} (h : impliedClass f s = .next t)
    (hf : ∀ pc, ExecFrame i s ((f s).endAt pc)) : ExecFrame i s t := by
  obtain rfl := impliedClass_eq_next.mp h
  exact hf _

theorem branchIf_frame {cond : Bool} {b1 : Byte} (h : branchIf cond b1 s = .next t)
    (hs : ∀ pc, ExecFrame i s (s.endAt pc)) : ExecFrame i s t := by
  obtain rfl := branchIf_eq_next.mp h
  exact hs _

theorem byUnstableUse_frame {use : UnstableUse} {byRule byDraw : Result}
    (h : byUnstableUse use byRule byDraw = .next t) (hrule : byRule = .next t → ExecFrame i s t)
    (hdraw : byDraw = .next t → ExecFrame i s t) : ExecFrame i s t := by
  obtain ⟨-, hnext⟩ | ⟨-, hnext⟩ := byUnstableUse_eq_next.mp h
  · exact hrule hnext
  · exact hdraw hnext

theorem unstableStore_frame {use : UnstableUse} {m : MemMode} {v : Byte} (h : unstableStore use m v u = .next t)
    (hu : ∀ pc, ExecFrame i s (u.endAt pc)) : ExecFrame i s t :=
  byUnstableUse_frame h (writeClass_frame · hu) (writeClass_frame · hu)

theorem brkCollision_eq_nmi {s : State} : brkCollision s = some .nmi ↔ s.during = some .nmi := by
  unfold brkCollision
  split
  · next hirq => split <;> simp [hirq]
  · next hnmi => simp [hnmi]
  · next hnone => simp [hnone]

/-- A BRK, colliding or not, is an interrupt sequence, before which a colliding NMI leaves the latch (R170, R271). -/
theorem State.brk_eq_interruptSequence (s : State) : ∃ vector b,
    s.brk = { s with nmiPending := latchAfter .brk s }.interruptSequence (s.pc + 2) vector b := by
  by_cases hduring : s.during = some .nmi
  · refine ⟨nmiVector, Config.freeBit s.draws .collisionB, ?_⟩
    simp [State.brk, brkCollision_eq_nmi.mpr hduring, latchAfter, hduring]
  · rw [latchAfter_of_no_collision (.inr hduring)]
    unfold State.brk
    split
    · exact ⟨irqVector, true, rfl⟩
    · exact ⟨irqVector, Config.freeBit s.draws .collisionB, rfl⟩
    · next hnmi => exact absurd (brkCollision_eq_nmi.mp hnmi) hduring

theorem brk_frame (s : State) : ExecFrame .brk s s.brk := by
  obtain ⟨vector, b, hbrk⟩ := s.brk_eq_interruptSequence
  obtain ⟨-, -, -, -, hp, -, -, hiPrev, -⟩ :=
    interruptSequence_registers (s.pc + 2) vector b { s with nmiPending := latchAfter .brk s }
  have hhidden := State.interruptSequence_hidden (s.pc + 2) vector b { s with nmiPending := latchAfter .brk s }
  rw [← hbrk] at hp hiPrev hhidden
  refine ⟨?_, fun hwf => ?_, hhidden, ?_⟩
  · rw [hp]; rfl
  · rw [hbrk]; exact interruptSequence_mem_wf _ vector b hwf
  · rw [hiPrev, hp]; rfl

theorem jsr_frame (b1 b2 : Byte) (s : State) : ExecFrame (.jsrAbs b1 b2) s (s.jsr (join b2 b1)) :=
  .push_endAt (.push_endAt fun _ => ⟨rfl, id, rfl, rfl⟩) _

end

/-- What every instruction does to P, memory and the hidden state, class by class (R38 to R41, R114). -/
theorem exec_frame {i : Instr} {s t : State} (h : exec i s = .next t) : ExecFrame i s t := by
  unfold exec at h
  cases i with
  | brk => cases h; exact brk_frame s
  | jsrAbs b1 b2 => cases h; exact jsr_frame b1 b2 s
  | jmpAbs _ _ | jmpInd _ _ | rts | rti | cli | sei | plp
  | jam02 | jam12 | jam22 | jam32 | jam42 | jam52 | jam62 | jam72 | jam92 | jamB2 | jamD2 | jamF2 =>
    cases h; exact ⟨rfl, id, rfl, rfl⟩
  | bpl _ | bmi _ | bvc _ | bvs _ | bcc _ | bcs _ | bne _ | beq _ =>
    exact branchIf_frame h fun _ => ⟨rfl, id, rfl, rfl⟩
  | pha | php => exact impliedClass_frame h (.push_endAt fun _ => ⟨rfl, id, rfl, rfl⟩)
  | clc | sec | clv | cld | sed | pla | dex | dey | inx | iny | tax | tay | tsx | txa | txs | tya
  | nop | nop1A | nop3A | nop5A | nop7A | nopDA | nopFA => exact impliedClass_frame h fun _ => ⟨rfl, id, rfl, rfl⟩
  | aslA | lsrA | rolA | rorA => exact accumulatorClass_frame h fun _ _ _ => ⟨rfl, id, rfl, rfl⟩
  | staZp _ | staZpX _ | staAbs _ _ | staAbsX _ _ | staAbsY _ _ | staIndX _ | staIndY _
  | stxZp _ | stxZpY _ | stxAbs _ _ | styZp _ | styZpX _ | styAbs _ _
  | saxZp _ | saxZpY _ | saxAbs _ _ | saxIndX _ =>
    exact writeClass_frame h fun _ => ⟨rfl, id, rfl, rfl⟩
  | aslZp _ | aslZpX _ | aslAbs _ _ | aslAbsX _ _ | lsrZp _ | lsrZpX _ | lsrAbs _ _ | lsrAbsX _ _
  | rolZp _ | rolZpX _ | rolAbs _ _ | rolAbsX _ _ | rorZp _ | rorZpX _ | rorAbs _ _ | rorAbsX _ _
  | decZp _ | decZpX _ | decAbs _ _ | decAbsX _ _ | incZp _ | incZpX _ | incAbs _ _ | incAbsX _ _
  | sloZp _ | sloZpX _ | sloAbs _ _ | sloAbsX _ _ | sloAbsY _ _ | sloIndX _ | sloIndY _
  | rlaZp _ | rlaZpX _ | rlaAbs _ _ | rlaAbsX _ _ | rlaAbsY _ _ | rlaIndX _ | rlaIndY _
  | sreZp _ | sreZpX _ | sreAbs _ _ | sreAbsX _ _ | sreAbsY _ _ | sreIndX _ | sreIndY _
  | rraZp _ | rraZpX _ | rraAbs _ _ | rraAbsX _ _ | rraAbsY _ _ | rraIndX _ | rraIndY _
  | dcpZp _ | dcpZpX _ | dcpAbs _ _ | dcpAbsX _ _ | dcpAbsY _ _ | dcpIndX _ | dcpIndY _
  | iscZp _ | iscZpX _ | iscAbs _ _ | iscAbsX _ _ | iscAbsY _ _ | iscIndX _ | iscIndY _ =>
    exact rmwClass_frame h fun _ _ => ⟨rfl, id, rfl, rfl⟩
  | xaaImm _ | laxImm _ | arrImm _ =>
    exact byUnstableUse_frame h (fun hrule => readClass_frame hrule fun _ _ => ⟨rfl, id, rfl, rfl⟩)
      (fun hdraw => readClass_frame hdraw fun _ _ => ⟨rfl, id, rfl, rfl⟩)
  | shaIndY _ | shaAbsY _ _ | shxAbsY _ _ | shyAbsX _ _ | shsAbsY _ _ =>
    exact unstableStore_frame h fun _ => ⟨rfl, id, rfl, rfl⟩
  | _ => exact readClass_frame h fun _ _ => ⟨rfl, id, rfl, rfl⟩

/-- Settles O49, from the flags of the frame. -/
theorem flagsFollowTheFlagColumns : Obligations.FlagsFollowTheFlagColumns :=
  fun _ _ _ h => FlagColumn.holds_of_eq_result (exec_frame h).flags

/-- Settles O52, field by field from the hidden state of the frame. -/
theorem instructionsKeepLinesAndHiddenState : Obligations.InstructionsKeepLinesAndHiddenState := by
  intro i s t h
  obtain ⟨-, -, hhidden, hiPrev⟩ := exec_frame h
  have hhalted : t.halted = haltedAfter i.mnemonic s.halted := congrArg HiddenState.halted hhidden
  have hlatch : t.nmiPending = latchAfter i.mnemonic s := congrArg HiddenState.nmiPending hhidden
  refine ⟨congrArg HiddenState.irqLine hhidden, congrArg HiddenState.resetLine hhidden,
    congrArg HiddenState.soLine hhidden, congrArg HiddenState.plat hhidden, congrArg HiddenState.env hhidden,
    congrArg HiddenState.during hhidden, congrArg HiddenState.draws hhidden,
    hhalted.trans (haltedAfter_eq _ _), fun hno => hlatch.trans (latchAfter_of_no_collision hno),
    fun hmem => hiPrev.trans (iPrevAfter_of_mem hmem _ _),
    fun hmem => hiPrev.trans (iPrevAfter_of_not_mem hmem _ _)⟩

/-! ### The invariant of every step -/

/-- No event of the environment latches an NMI in a halted CPU, and none writes memory (R236, R260, D15). -/
theorem Inv.applyEvent {s : State} (h : Inv s) (e : EnvEvent) : Inv (s.applyEvent e) := by
  cases e with
  | irqLine _ | resetLine _ | soLine _ => exact ⟨h.memory, h.haltedLatch⟩
  | nmi =>
    refine ⟨h.memory, fun (hhalted : s.halted = true) => ?_⟩
    simp [State.applyEvent, hhalted, h.haltedLatch hhalted]

theorem Inv.foldl_applyEvent {s : State} (h : Inv s) (es : List EnvEvent) : Inv (es.foldl State.applyEvent s) := by
  induction es generalizing s with
  | nil => exact h
  | cons e es ih => exact ih (h.applyEvent e)

theorem Inv.takeInput {s : State} (h : Inv s) : Inv s.takeInput := by
  unfold State.takeInput
  split
  · exact ⟨h.memory, h.haltedLatch⟩
  · next e rest _ =>
    have hrest : Inv { s with env := rest } := ⟨h.memory, h.haltedLatch⟩
    obtain ⟨hmemory, hlatch⟩ := hrest.foldl_applyEvent e.before
    exact ⟨hmemory, hlatch⟩

theorem Inv.interruptSequence {s : State} (h : Inv s) (ret vector : Addr) (b : Bool) :
    Inv (s.interruptSequence ret vector b) := by
  obtain ⟨-, -, -, -, -, hhalted, hlatch, -⟩ := interruptSequence_registers ret vector b s
  refine ⟨interruptSequence_mem_wf ret vector b h.memory, ?_⟩
  rw [hhalted, hlatch]
  exact h.haltedLatch

/-- An NMI comes before an instruction, so none is latched where an instruction runs (R269, R270). -/
theorem nmiPending_of_instruction {s : State} (h : nextEvent s = .instruction) : s.nmiPending = false := by
  unfold nextEvent at h
  split_ifs at h with _ _ hlatch
  exact Bool.eq_false_iff.mpr hlatch

/-- An instruction keeps the canonical form and sets no latch (R40). -/
theorem Inv.exec {i : Instr} {s t : State} (h : Inv s) (hlatch : s.nmiPending = false)
    (hexec : Machine.exec i s = .next t) : Inv t ∧ t.plat = s.plat := by
  obtain ⟨-, hmemory, hhidden, -⟩ := exec_frame hexec
  have hlatch' : t.nmiPending = latchAfter i.mnemonic s := congrArg HiddenState.nmiPending hhidden
  exact ⟨⟨hmemory h.memory, fun _ => hlatch'.trans (latchAfter_of_not_pending hlatch)⟩,
    congrArg HiddenState.plat hhidden⟩

theorem Inv.cpuStep {s t : State} (h : Inv s) (hstep : Machine.cpuStep s = .next t) : Inv t ∧ t.plat = s.plat := by
  obtain ⟨-, hreset⟩ | ⟨-, hhalted⟩ | ⟨-, hnmi⟩ | ⟨-, hirq⟩ | ⟨hevent, hinstr⟩ := cpuStep_cases s
  · cases hreset.symm.trans hstep
    exact ⟨⟨h.memory, fun _ => rfl⟩, rfl⟩
  · cases hhalted.symm.trans hstep
    exact ⟨h, rfl⟩
  · cases hnmi.symm.trans hstep
    have hcleared : Inv { s with nmiPending := false } := ⟨h.memory, fun _ => rfl⟩
    exact ⟨hcleared.interruptSequence .., State.interruptSequence_plat ..⟩
  · cases hirq.symm.trans hstep
    exact ⟨h.interruptSequence .., State.interruptSequence_plat ..⟩
  · exact h.exec (nmiPending_of_instruction hevent) (hinstr.symm.trans hstep)

/-- Settles O53: the environment's input keeps the invariant and the platform, and so does the CPU's part of a step. -/
theorem stepKeepsInvariant : Obligations.StepKeepsInvariant := by
  intro s t h hstep
  obtain ⟨hinv, hplat⟩ := h.takeInput.cpuStep hstep
  exact ⟨hinv, hplat.trans s.takeInput_plat⟩

/-! ### The environment's steps -/

/-- An NMI event sets the latch (R265). -/
theorem applyEvent_nmi_of_running {s : State} (h : s.halted = false) :
    s.applyEvent .nmi = { s with nmiPending := true } := by
  simp [State.applyEvent, h]

/-- An NMI event that arrives while the CPU is halted is lost (R236, D15). -/
theorem applyEvent_nmi_of_halted {s : State} (h : s.halted = true) : s.applyEvent .nmi = s := by
  have hlatch : (s.nmiPending || !s.halted) = s.nmiPending := by simp [h]
  simp only [State.applyEvent, hlatch]

/-- Without a rising edge on a pin in use, the set-overflow line takes its level and V stays (R41, log 16). -/
theorem applyEvent_soLine_of_no_edge {s : State} {l : Bool} (h : (s.plat.soUsed && l && !s.soLine) = false) :
    s.applyEvent (.soLine l) = { s with soLine := l } := by
  simp only [State.applyEvent, h, Bool.or_false]

/-- A rising edge on a pin in use sets V (R41, D17, log 16). -/
theorem applyEvent_soLine_of_edge {s : State} (hused : s.plat.soUsed = true) (hlow : s.soLine = false) :
    s.applyEvent (.soLine true) = { s with soLine := true, p := { s.p with v := true } } := by
  simp [State.applyEvent, hused, hlow]

/-- The schedule hands out its first entry (R260, log 5). -/
theorem takeInput_of_env_cons {s : State} {e : EnvInput} {rest : List EnvInput} (h : s.env = e :: rest) :
    s.takeInput = { e.before.foldl State.applyEvent { s with env := rest } with during := e.during } := by
  simp only [State.takeInput, h]

/-- Settles O8, event by event. -/
theorem environmentSteps : Obligations.EnvironmentSteps := by
  intro s l
  refine ⟨rfl, rfl, applyEvent_nmi_of_running, applyEvent_nmi_of_halted, ?unused, applyEvent_soLine_of_edge,
    ?asserted, ?released, fun _ _ _ => takeInput_of_env_cons, takeInput_of_env_nil⟩
  case unused => exact fun hunused => applyEvent_soLine_of_no_edge (by simp [hunused])
  case asserted => exact fun _ hhigh => applyEvent_soLine_of_no_edge (by simp [hhigh])
  case released => exact fun _ => applyEvent_soLine_of_no_edge (by simp)

end Sys2Proof.Machine

/-! PROOFS. The memory (20_memory.md): what the two primitives do against the memory map, and where an instruction is
refused. -/

namespace Sys2Proof.Machine

/-! ### The two primitives -/

/-- A read of RAM or ROM gives the stored byte (R52). -/
theorem State.read_of_stored {a : Addr} {s : State} (d : Draw) (h : kindAt s.plat a = .ram ∨ kindAt s.plat a = .rom) :
    s.read d a = s.byteAt a := by
  unfold State.read
  obtain hram | hrom := h
  · rw [hram]
  · rw [hrom]

/-- A read of a device or of an unmapped address gives a free byte (R52, D12, log 7). -/
theorem State.read_of_not_stored {a : Addr} {s : State} (d : Draw) (hram : kindAt s.plat a ≠ .ram)
    (hrom : kindAt s.plat a ≠ .rom) : s.read d a = Config.freeByte s.draws d := by
  unfold State.read
  split
  · next hkind => exact absurd hkind hram
  · next hkind => exact absurd hkind hrom
  all_goals rfl

/-- A read of RAM after a write of it gives the byte written (R52, R53). -/
theorem State.read_write_same {a : Addr} {s : State} (d : Draw) (v : Byte) (hram : kindAt s.plat a = .ram)
    (hwf : Memory.wf s.mem = true) : (s.write a v).read d a = v := by
  have hkind : kindAt (s.write a v).plat a = .ram := by rwa [State.write_plat]
  rw [State.read_of_stored d (.inl hkind), State.byteAt_write_same v hram hwf]

/-- Settles O56, clause by clause from what a read gives and what a write stores. -/
theorem memoryPrimitives : Obligations.MemoryPrimitives := fun s a v d =>
  ⟨State.read_of_stored d, State.read_of_not_stored d, storesExactly_write a v s, State.write_eq a v s,
    State.read_write_same d v⟩

/-! ### Where D16 refuses an access -/

/-- D16 refuses an access in mode a16,X or a16,Y only (R58, R110, R111). -/
theorem mode_of_discardedReadBlocked {c : AccessClass} {m : MemMode} {s : State}
    (h : discardedReadBlocked c m s = true) : ∃ b1 b2, m = .absX b1 b2 ∨ m = .absY b1 b2 := by
  cases m with
  | absX b1 b2 => exact ⟨b1, b2, .inl rfl⟩
  | absY b1 b2 => exact ⟨b1, b2, .inr rfl⟩
  | zp _ | zpX _ | zpY _ | indX _ | indY _ | abs _ _ => cases h

/-- D16 refuses an access only where the platform has a device whose reads have side effects (R58). -/
theorem exists_device_of_discardedReadBlocked {c : AccessClass} {m : MemMode} {s : State}
    (h : discardedReadBlocked c m s = true) : ∃ a, kindAt s.plat a = .device true :=
  not_forall_not.mp (not_noReadEffects_of_blocked h)

/-- Whether D16 refuses the access that an instruction makes at its memory operand; one without such an access is
never refused (R58, R114). -/
def operandBlocked (i : Instr) (s : State) : Bool :=
  match i.operand, accessClass i with
  | .memory m, some c => discardedReadBlocked c m s
  | _, _ => false

theorem operandBlocked_eq_true {i : Instr} {s : State} :
    operandBlocked i s = true ↔
      ∃ m c, i.operand = .memory m ∧ accessClass i = some c ∧ discardedReadBlocked c m s = true := by
  unfold operandBlocked
  constructor
  · intro h
    split at h
    · next m c hoperand hclass => exact ⟨m, c, hoperand, hclass, h⟩
    · cases h
  · rintro ⟨m, c, hoperand, hclass, hblocked⟩
    rw [hoperand, hclass]
    exact hblocked

/-! ### Where an instruction is refused -/

/-- The answers that are open to an instruction of which `UnstableOps` says `u`, and D16 that its access is refused
(`blocked`): the three cases exclude each other, and `UnstableOps` comes first (R58, D16; R5, R230). Unlike
`Answers`, this says of a next state too that no ground of a refusal holds. -/
inductive Verdict (u : UnstableUse) (blocked : Bool) : Result → Prop
  | next {t : State} (huse : u ≠ .refuse) (hopen : blocked = false) : Verdict u blocked (.next t)
  | discardedRead (huse : u ≠ .refuse) (hblocked : blocked = true) : Verdict u blocked (.refused .discardedReadOfDevice)
  | unstable (huse : u = .refuse) : Verdict u blocked (.refused .unstableOpcode)

section
variable {u : UnstableUse} {blocked : Bool} {r : Result}

theorem Verdict.eq_unstable_iff (h : Verdict u blocked r) : r = .refused .unstableOpcode ↔ u = .refuse := by
  cases h with
  | next huse _ | discardedRead huse _ => simp [huse]
  | unstable huse => simp [huse]

theorem Verdict.eq_discardedRead_iff (h : Verdict u blocked r) :
    r = .refused .discardedReadOfDevice ↔ u ≠ .refuse ∧ blocked = true := by
  cases h with
  | next _ hopen => simp [hopen]
  | discardedRead huse hblocked => simp [huse, hblocked]
  | unstable huse => simp [huse]

theorem Verdict.refusal (h : Verdict u blocked r) {q : Refusal} (hr : r = .refused q) :
    q = .unstableOpcode ∨ q = .discardedReadOfDevice := by
  cases h with
  | next => cases hr
  | discardedRead => cases hr; exact .inr rfl
  | unstable => cases hr; exact .inl rfl

/-- No verdict is a fault (R11, R90). -/
theorem Verdict.next_or_refused (h : Verdict u blocked r) : (∃ t, r = .next t) ∨ ∃ q, r = .refused q := by
  cases h with
  | next => exact .inl ⟨_, rfl⟩
  | discardedRead | unstable => exact .inr ⟨_, rfl⟩

/-- An access in the shape that the three classes share: a refusal where D16 says so, else a next state. -/
theorem Verdict.of_access (huse : u ≠ .refuse) (t : State) :
    Verdict u blocked (if blocked then .refused .discardedReadOfDevice else .next t) := by
  split
  · next hblocked => exact .discardedRead huse hblocked
  · next hopen => exact .next huse (Bool.eq_false_iff.mpr hopen)

theorem readClass_verdict {src : Source} {f : Byte → State → State} {s : State} (huse : u ≠ .refuse)
    (hblocked : blocked = sourceBlocked src s) : Verdict u blocked (readClass src f s) :=
  hblocked ▸ .of_access huse _

theorem writeClass_verdict {m : MemMode} {v : Byte} {s : State} (huse : u ≠ .refuse)
    (hblocked : blocked = discardedReadBlocked .write m s) : Verdict u blocked (writeClass m v s) :=
  hblocked ▸ .of_access huse _

theorem rmwClass_verdict {m : MemMode} {f : Byte → State → Byte × State} {s : State} (huse : u ≠ .refuse)
    (hblocked : blocked = discardedReadBlocked .readModifyWrite m s) : Verdict u blocked (rmwClass m f s) :=
  hblocked ▸ .of_access huse _

theorem byUnstableUse_verdict {byRule byDraw : Result} (hrule : Verdict .rule blocked byRule)
    (hdraw : Verdict .draw blocked byDraw) : Verdict u blocked (byUnstableUse u byRule byDraw) := by
  cases u with
  | rule => exact hrule
  | draw => exact hdraw
  | refuse => exact .unstable rfl

theorem unstableStore_verdict {m : MemMode} {v : Byte} {s : State}
    (hblocked : blocked = discardedReadBlocked .write m s) : Verdict u blocked (unstableStore u m v s) :=
  byUnstableUse_verdict (writeClass_verdict nofun hblocked) (writeClass_verdict nofun hblocked)

end

/-- The verdict on every instruction, class by class (R58, R114, R230). The first list makes no access that D16 speaks
of; JMP and JSR among it use their 16-bit operand as a target only. -/
theorem exec_verdict (i : Instr) (s : State) : Verdict (unstableUse i s) (operandBlocked i s) (exec i s) := by
  unfold exec
  cases i with
  | brk | jsrAbs _ _ | jmpAbs _ _ | jmpInd _ _ | rts | rti | cli | sei | plp
  | jam02 | jam12 | jam22 | jam32 | jam42 | jam52 | jam62 | jam72 | jam92 | jamB2 | jamD2 | jamF2
  | bpl _ | bmi _ | bvc _ | bvs _ | bcc _ | bcs _ | bne _ | beq _
  | pha | php | clc | sec | clv | cld | sed | pla | dex | dey | inx | iny | tax | tay | tsx | txa | txs | tya
  | nop | nop1A | nop3A | nop5A | nop7A | nopDA | nopFA
  | aslA | lsrA | rolA | rorA => exact .next nofun rfl
  | staZp _ | staZpX _ | staAbs _ _ | staAbsX _ _ | staAbsY _ _ | staIndX _ | staIndY _
  | stxZp _ | stxZpY _ | stxAbs _ _ | styZp _ | styZpX _ | styAbs _ _
  | saxZp _ | saxZpY _ | saxAbs _ _ | saxIndX _ => exact writeClass_verdict nofun rfl
  | aslZp _ | aslZpX _ | aslAbs _ _ | aslAbsX _ _ | lsrZp _ | lsrZpX _ | lsrAbs _ _ | lsrAbsX _ _
  | rolZp _ | rolZpX _ | rolAbs _ _ | rolAbsX _ _ | rorZp _ | rorZpX _ | rorAbs _ _ | rorAbsX _ _
  | decZp _ | decZpX _ | decAbs _ _ | decAbsX _ _ | incZp _ | incZpX _ | incAbs _ _ | incAbsX _ _
  | sloZp _ | sloZpX _ | sloAbs _ _ | sloAbsX _ _ | sloAbsY _ _ | sloIndX _ | sloIndY _
  | rlaZp _ | rlaZpX _ | rlaAbs _ _ | rlaAbsX _ _ | rlaAbsY _ _ | rlaIndX _ | rlaIndY _
  | sreZp _ | sreZpX _ | sreAbs _ _ | sreAbsX _ _ | sreAbsY _ _ | sreIndX _ | sreIndY _
  | rraZp _ | rraZpX _ | rraAbs _ _ | rraAbsX _ _ | rraAbsY _ _ | rraIndX _ | rraIndY _
  | dcpZp _ | dcpZpX _ | dcpAbs _ _ | dcpAbsX _ _ | dcpAbsY _ _ | dcpIndX _ | dcpIndY _
  | iscZp _ | iscZpX _ | iscAbs _ _ | iscAbsX _ _ | iscAbsY _ _ | iscIndX _ | iscIndY _ =>
    exact rmwClass_verdict nofun rfl
  | xaaImm _ | laxImm _ | arrImm _ =>
    exact byUnstableUse_verdict (readClass_verdict nofun rfl) (readClass_verdict nofun rfl)
  | shaIndY _ | shaAbsY _ _ | shxAbsY _ _ | shyAbsX _ _ | shsAbsY _ _ => exact unstableStore_verdict rfl
  | _ => exact readClass_verdict nofun rfl

/-- Settles O48, clause by clause from the verdict on the instruction and from what D16 refuses. -/
theorem refusedExactlyWhereTheSpecSays : Obligations.RefusedExactlyWhereTheSpecSays := by
  intro i s
  have hverdict := exec_verdict i s
  refine ⟨hverdict.eq_unstable_iff, ?_, fun _ => hverdict.refusal, hverdict.next_or_refused, fun m c _ hblocked =>
    ⟨mode_of_discardedReadBlocked hblocked, exists_device_of_discardedReadBlocked hblocked⟩⟩
  rw [← operandBlocked_eq_true]
  exact hverdict.eq_discardedRead_iff

end Sys2Proof.Machine

/-! PROOFS. The encoding (30_encoding.md): the length of an image, the encoder on what the decoder answers, and the
opcode map as a map with exactly one row for each opcode byte. -/

namespace Sys2Proof.Machine

/-! ### The length of an image -/

/-- No addressing mode has more than two operand bytes (R81). -/
theorem operandBytes_length_le (o : Operand) : o.bytes.length ≤ 2 := by
  cases o with
  | implied | accumulator | immediate _ | relative _ | indirect _ _ => simp [Operand.bytes]
  | memory m => cases m <;> simp [Operand.bytes, MemMode.bytes]

/-- An image is the opcode byte and the operand bytes (R80). -/
theorem length_eq_succ (i : Instr) : i.length = i.operand.bytes.length + 1 := Nat.add_comm _ _

theorem length_encode (i : Instr) : (encode i).length = i.length := (length_eq_succ i).symm

theorem one_le_length (i : Instr) : 1 ≤ i.length := length_eq_succ i ▸ Nat.le_add_left 1 _

theorem length_le_three (i : Instr) : i.length ≤ 3 :=
  length_eq_succ i ▸ Nat.succ_le_succ (operandBytes_length_le i.operand)

theorem wellFormedImage_encode (i : Instr) : wellFormedImage (encode i) = true := by
  simp [wellFormedImage, length_encode, one_le_length, length_le_three]

/-! ### The decoder on a list that is long enough -/

/-- A list that holds all the bytes of the instruction that its first byte selects decodes to it (R83, R90). -/
theorem decode_cons_of_length_le {op : Byte} {rest : List Byte} {i : Instr}
    (hi : decodeOpcode op (rest.getD 0 0) (rest.getD 1 0) = i) (hlen : i.length ≤ rest.length + 1) :
    decode (op :: rest) = .ok (i, (op :: rest).drop i.length) := by
  rw [decode, hi, if_neg (Nat.not_lt.mpr hlen), length_eq_succ i, List.drop_succ_cons, Nat.add_sub_cancel]

theorem decode_three_bytes (op b1 b2 : Byte) : decode [op, b1, b2] =
    .ok (decodeOpcode op b1 b2, [op, b1, b2].drop (decodeOpcode op b1 b2).length) :=
  decode_cons_of_length_le rfl (length_le_three _)

/-! ### One row for each opcode byte -/

/-- Each of the 256 opcode bytes is that of some instruction (R83, R88). -/
theorem opcode_surjective : Function.Surjective Instr.opcode := by
  have hrow : ∀ op : Byte, (decodeOpcode op 0 0).opcode = op := by decide
  exact fun op => ⟨decodeOpcode op 0 0, hrow op⟩

/-- With the opcode byte of `i`, the decoder answers the row of `i`: it takes as many operand bytes from the two that
follow as `i` has (R81, R88). -/
theorem encode_decodeOpcode_opcode (i : Instr) (b1 b2 : Byte) :
    encode (decodeOpcode i.opcode b1 b2) = [i.opcode, b1, b2].take i.length := by
  cases i <;> dsimp only [Instr.opcode] <;> rfl

/-- The length that the decoder answers is that of every instruction with the opcode byte (R81). -/
theorem length_decodeOpcode_opcode (i : Instr) (b1 b2 : Byte) :
    (decodeOpcode i.opcode b1 b2).length = i.length := by
  rw [← length_encode, encode_decodeOpcode_opcode, List.length_take]
  exact Nat.min_eq_left (length_le_three i)

/-- The length depends on the opcode byte alone (R81). -/
theorem length_eq_of_opcode_eq {i j : Instr} (h : i.opcode = j.opcode) : i.length = j.length :=
  calc i.length = (decodeOpcode i.opcode 0 0).length := (length_decodeOpcode_opcode i 0 0).symm
    _ = (decodeOpcode j.opcode 0 0).length := by rw [h]
    _ = j.length := length_decodeOpcode_opcode j 0 0

/-- What the decoder answers encodes to the bytes it was read from (R83, R88). -/
theorem encode_decodeOpcode (op b1 b2 : Byte) :
    encode (decodeOpcode op b1 b2) = [op, b1, b2].take (decodeOpcode op b1 b2).length := by
  obtain ⟨i, rfl⟩ := opcode_surjective op
  rw [length_decodeOpcode_opcode, encode_decodeOpcode_opcode]

theorem opcode_decodeOpcode (op b1 b2 : Byte) : (decodeOpcode op b1 b2).opcode = op := by
  have h := encode_decodeOpcode op b1 b2
  rw [length_eq_succ, List.take_succ_cons, encode] at h
  exact (List.cons.inj h).left

/-- An instruction whose image begins the three bytes is the one that the decoder answers (R83). -/
theorem eq_decodeOpcode_of_encode_prefix {i : Instr} {op b1 b2 : Byte} (h : encode i <+: [op, b1, b2]) :
    i = decodeOpcode op b1 b2 := by
  have htake : encode i = [op, b1, b2].take i.length := length_encode i ▸ List.prefix_iff_eq_take.mp h
  exact (decodeOpcode_of_take_eq_encode htake.symm).symm

/-- Settles O3: the one row is the decoder's answer, since a prefix of the bytes that is an image decodes to it. -/
theorem everyOpcodeSelectsOneRow : Obligations.EveryOpcodeSelectsOneRow := by
  refine ⟨fun op b1 b2 => ⟨decodeOpcode op b1 b2, opcode_decodeOpcode op b1 b2, ?_, wellFormedImage_encode _,
    decode_three_bytes op b1 b2, fun _ _ => eq_decodeOpcode_of_encode_prefix⟩, fun _ _ => length_eq_of_opcode_eq⟩
  exact encode_decodeOpcode op b1 b2 ▸ List.take_prefix _ _

end Sys2Proof.Machine

/-! PROOFS. The addressing modes (40_addressing_modes.md): which bytes an instruction stores to, the effective
addresses as numbers with the order of an indexed access, and the cycle counts with their page crossings. -/

namespace Sys2Proof.Machine

/-! ### The addresses an instruction stores to -/

/-- An instruction of class write stores at its effective address (R114). -/
theorem storedAddrs_of_write {i : Instr} {m : MemMode} (htraffic : mnemonicTraffic i.mnemonic = .write)
    (hoperand : i.operand = .memory m) (s : State) : storedAddrs i s = [effAddr m s] := by
  rw [storedAddrs, htraffic, hoperand]
  cases m <;> rfl

/-- An instruction of class read/modify/write stores at its effective address, once (R59, R114). -/
theorem storedAddrs_of_readModifyWrite {i : Instr} {m : MemMode}
    (htraffic : mnemonicTraffic i.mnemonic = .readModifyWrite) (hoperand : i.operand = .memory m) (s : State) :
    storedAddrs i s = [effAddr m s] := by
  rw [storedAddrs, htraffic, hoperand]
  cases m <;> rfl

/-- The addresses of `n` successive pushes from `s`, highest first (R27). -/
def pushedAddrs (n : Nat) (s : State) : List Addr :=
  (List.range n).map fun k => stackAddr (s.sp - BitVec.ofNat 8 k)

theorem pushedAddrs_succ (n : Nat) (v : Byte) (s : State) :
    pushedAddrs (n + 1) s = stackAddr s.sp :: pushedAddrs n (s.push v) := by
  have hsp (k : Nat) : s.sp - BitVec.ofNat 8 (k + 1) = (s.push v).sp - BitVec.ofNat 8 k := by
    rw [State.push_sp, Nat.add_comm, BitVec.ofNat_add, sub_add_eq_sub_sub]; rfl
  simp only [pushedAddrs, List.range_succ_eq_map, List.map_cons, List.map_map, Function.comp_def, Nat.succ_eq_add_one,
    hsp, BitVec.sub_zero]

theorem storedAddrs_of_push {i : Instr} {n : Nat} (htraffic : mnemonicTraffic i.mnemonic = .push n) (s : State) :
    storedAddrs i s = pushedAddrs n s := by
  simp only [storedAddrs, htraffic, operandAccesses, pushAccesses, List.filterMap_map]
  exact congrFun List.filterMap_eq_map _

/-- BRK stores the three bytes of the interrupt sequence; its reads of the vector store nothing (R262). -/
theorem storedAddrs_brk (s : State) : storedAddrs .brk s = pushedAddrs 3 s := rfl

/-! ### What one store can change -/

/-- Between `s` and `t`, stored bytes change at these addresses only, and only where the platform has RAM (R53). -/
def StoresOnlyAt (addrs : List Addr) (s t : State) : Prop :=
  ∀ a, a ∉ addrs ∨ kindAt s.plat a ≠ .ram → t.byteAt a = s.byteAt a

section
variable {addrs : List Addr} {s t u : State}

/-- A state with the same memory changes no stored byte. -/
theorem StoresOnlyAt.of_mem_eq (h : t.mem = s.mem) : StoresOnlyAt addrs s t := fun a _ =>
  congrArg (Memory.get · a.toNat) h

/-- The stores of one sequence after those of another. -/
theorem StoresOnlyAt.trans {later : List Addr} (h : StoresOnlyAt addrs s u) (hplat : u.plat = s.plat)
    (hlater : StoresOnlyAt later u t) : StoresOnlyAt (addrs ++ later) s t := by
  intro a ha
  rw [List.mem_append, not_or] at ha
  have hbefore : a ∉ addrs ∨ kindAt s.plat a ≠ .ram := ha.imp_left And.left
  have hafter : a ∉ later ∨ kindAt u.plat a ≠ .ram := by rw [hplat]; exact ha.imp_left And.right
  exact (hlater a hafter).trans (h a hbefore)

theorem storesOnlyAt_write (a : Addr) (v : Byte) (s : State) : StoresOnlyAt [a] s (s.write a v) := by
  intro b hb
  obtain hother | hkind := hb
  · exact State.byteAt_write_other v (List.ne_of_not_mem_cons hother) s
  · by_cases hab : b = a
    · subst hab; exact State.byteAt_write_noRam v hkind b
    · exact State.byteAt_write_other v hab s

theorem storesOnlyAt_push (v : Byte) (s : State) : StoresOnlyAt [stackAddr s.sp] s (s.push v) :=
  storesOnlyAt_write (stackAddr s.sp) v s

/-- Successive pushes store at the addresses from S downwards (R27). -/
theorem storesOnlyAt_pushes (vs : List Byte) (s : State) :
    StoresOnlyAt (pushedAddrs vs.length s) s (vs.foldl (fun t v => t.push v) s) := by
  induction vs generalizing s with
  | nil => exact .of_mem_eq rfl
  | cons v vs ih =>
    rw [List.length_cons, pushedAddrs_succ _ v]
    exact (storesOnlyAt_push v s).trans (s.push_plat v) (ih (s.push v))

/-! ### What an instruction stores, class by class -/

variable {i : Instr}

theorem readClass_storesOnlyAt {src : Source} {f : Byte → State → State} (h : readClass src f s = .next t)
    (hmem : ∀ v, (f v s).mem = s.mem) : StoresOnlyAt addrs s t := by
  obtain ⟨-, rfl⟩ := readClass_eq_next.mp h
  exact .of_mem_eq (hmem _)

theorem writeClass_storesOnlyAt {m : MemMode} {v : Byte} (htraffic : mnemonicTraffic i.mnemonic = .write)
    (hoperand : i.operand = .memory m) (h : writeClass m v s = .next t) : StoresOnlyAt (storedAddrs i s) s t := by
  obtain ⟨-, rfl⟩ := writeClass_eq_next.mp h
  rw [storedAddrs_of_write htraffic hoperand]
  exact storesOnlyAt_write _ v s

theorem rmwClass_storesOnlyAt {m : MemMode} {f : Byte → State → Byte × State}
    (htraffic : mnemonicTraffic i.mnemonic = .readModifyWrite) (hoperand : i.operand = .memory m)
    (h : rmwClass m f s = .next t) (hmem : ∀ v, (f v s).2.mem = s.mem) (hplat : ∀ v, (f v s).2.plat = s.plat) :
    StoresOnlyAt (storedAddrs i s) s t := by
  obtain ⟨-, rfl⟩ := rmwClass_eq_next.mp h
  rw [storedAddrs_of_readModifyWrite htraffic hoperand]
  exact StoresOnlyAt.trans (.of_mem_eq (addrs := []) (hmem _)) (hplat _) (storesOnlyAt_write _ _ _)

theorem unstableStore_storesOnlyAt {use : UnstableUse} {m : MemMode} {v : Byte}
    (htraffic : mnemonicTraffic i.mnemonic = .write) (hoperand : i.operand = .memory m)
    (h : unstableStore use m v s = .next t) : StoresOnlyAt (storedAddrs i s) s t := by
  obtain ⟨-, hrule⟩ | ⟨-, hdraw⟩ := byUnstableUse_eq_next.mp h
  · exact writeClass_storesOnlyAt htraffic hoperand hrule
  · exact writeClass_storesOnlyAt htraffic hoperand hdraw

theorem unstableRead_storesOnlyAt {use : UnstableUse} {src : Source} {f g : Byte → State → State}
    (h : byUnstableUse use (readClass src f s) (readClass src g s) = .next t) (hf : ∀ v, (f v s).mem = s.mem)
    (hg : ∀ v, (g v s).mem = s.mem) : StoresOnlyAt addrs s t := by
  obtain ⟨-, hrule⟩ | ⟨-, hdraw⟩ := byUnstableUse_eq_next.mp h
  · exact readClass_storesOnlyAt hrule hf
  · exact readClass_storesOnlyAt hdraw hg

/-- BRK pushes three bytes, whatever collides with it (R170, R262, R271). -/
theorem brk_storesOnlyAt (s : State) : StoresOnlyAt (storedAddrs .brk s) s s.brk := by
  obtain ⟨vector, b, hbrk⟩ := s.brk_eq_interruptSequence
  rw [hbrk, storedAddrs_brk]
  exact storesOnlyAt_pushes [hi (s.pc + 2), lo (s.pc + 2), pImage b s.p] { s with nmiPending := latchAfter .brk s }

/-- An instruction that pushes the bytes `vs` and ends stores at their stack addresses (R27). -/
theorem pushes_storesOnlyAt {vs : List Byte} {pc : Addr} (htraffic : mnemonicTraffic i.mnemonic = .push vs.length) :
    StoresOnlyAt (storedAddrs i s) s ((vs.foldl (fun t v => t.push v) s).endAt pc) := by
  rw [storedAddrs_of_push htraffic]
  exact storesOnlyAt_pushes vs s

end

/-- What every instruction stores, class by class (R53, R114). SHS computes its address with the new S, on which the
address does not depend (R246). -/
theorem exec_storesOnlyAt {i : Instr} {s t : State} (h : exec i s = .next t) :
    StoresOnlyAt (storedAddrs i s) s t := by
  unfold exec at h
  cases i with
  | brk => cases h; exact brk_storesOnlyAt s
  | jsrAbs _ _ => cases h; exact pushes_storesOnlyAt (vs := [hi (s.pc + 2), lo (s.pc + 2)]) rfl
  | pha => cases h; exact pushes_storesOnlyAt (vs := [s.a]) rfl
  | php => cases h; exact pushes_storesOnlyAt (vs := [pImage true s.p]) rfl
  | jmpAbs _ _ | jmpInd _ _ | rts | rti | cli | sei | plp
  | jam02 | jam12 | jam22 | jam32 | jam42 | jam52 | jam62 | jam72 | jam92 | jamB2 | jamD2 | jamF2
  | bpl _ | bmi _ | bvc _ | bvs _ | bcc _ | bcs _ | bne _ | beq _
  | clc | sec | clv | cld | sed | pla | dex | dey | inx | iny | tax | tay | tsx | txa | txs | tya
  | nop | nop1A | nop3A | nop5A | nop7A | nopDA | nopFA
  | aslA | lsrA | rolA | rorA => cases h; exact .of_mem_eq rfl
  | staZp _ | staZpX _ | staAbs _ _ | staAbsX _ _ | staAbsY _ _ | staIndX _ | staIndY _
  | stxZp _ | stxZpY _ | stxAbs _ _ | styZp _ | styZpX _ | styAbs _ _
  | saxZp _ | saxZpY _ | saxAbs _ _ | saxIndX _ => exact writeClass_storesOnlyAt rfl rfl h
  | aslZp _ | aslZpX _ | aslAbs _ _ | aslAbsX _ _ | lsrZp _ | lsrZpX _ | lsrAbs _ _ | lsrAbsX _ _
  | rolZp _ | rolZpX _ | rolAbs _ _ | rolAbsX _ _ | rorZp _ | rorZpX _ | rorAbs _ _ | rorAbsX _ _
  | decZp _ | decZpX _ | decAbs _ _ | decAbsX _ _ | incZp _ | incZpX _ | incAbs _ _ | incAbsX _ _
  | sloZp _ | sloZpX _ | sloAbs _ _ | sloAbsX _ _ | sloAbsY _ _ | sloIndX _ | sloIndY _
  | rlaZp _ | rlaZpX _ | rlaAbs _ _ | rlaAbsX _ _ | rlaAbsY _ _ | rlaIndX _ | rlaIndY _
  | sreZp _ | sreZpX _ | sreAbs _ _ | sreAbsX _ _ | sreAbsY _ _ | sreIndX _ | sreIndY _
  | rraZp _ | rraZpX _ | rraAbs _ _ | rraAbsX _ _ | rraAbsY _ _ | rraIndX _ | rraIndY _
  | dcpZp _ | dcpZpX _ | dcpAbs _ _ | dcpAbsX _ _ | dcpAbsY _ _ | dcpIndX _ | dcpIndY _
  | iscZp _ | iscZpX _ | iscAbs _ _ | iscAbsX _ _ | iscAbsY _ _ | iscIndX _ | iscIndY _ =>
    exact rmwClass_storesOnlyAt rfl rfl h (fun _ => rfl) fun _ => rfl
  | shaIndY _ | shaAbsY _ _ | shxAbsY _ _ | shyAbsX _ _ => exact unstableStore_storesOnlyAt rfl rfl h
  | shsAbsY b1 b2 =>
    exact unstableStore_storesOnlyAt (i := .shsAbsY b1 b2) (s := { s with sp := s.a &&& s.x }) rfl rfl h
  | xaaImm _ | laxImm _ | arrImm _ => exact unstableRead_storesOnlyAt h (fun _ => rfl) fun _ => rfl
  | _ => exact readClass_storesOnlyAt h fun _ => rfl

/-- Settles O51, from what every instruction stores. -/
theorem instructionsStoreOnlyAtTheirAddresses : Obligations.InstructionsStoreOnlyAtTheirAddresses :=
  fun _ _ _ h a => ⟨fun hother => exec_storesOnlyAt h a (.inl hother), fun hkind => exec_storesOnlyAt h a (.inr hkind)⟩

/-! ### The effective addresses as numbers -/

theorem join_toNat (h l : Byte) : (join h l).toNat = 256 * h.toNat + l.toNat := by
  rw [join, BitVec.toNat_append, Nat.shiftLeft_eq, Nat.mul_comm, ← Nat.two_pow_add_eq_or_of_lt l.isLt]

theorem zext_toNat (b : Byte) : (zext b).toNat = b.toNat :=
  BitVec.toNat_setWidth_of_le (by decide)

theorem hi_toNat (w : Addr) : (hi w).toNat = w.toNat / 256 := by
  rw [hi, BitVec.extractLsb'_toNat, Nat.shiftRight_eq_div_pow]
  omega

/-- An address and an index: the sum wraps modulo 65536 (R108, R110, R111). -/
theorem add_zext_toNat (w : Addr) (b : Byte) : (w + zext b).toNat = (w.toNat + b.toNat) % 65536 := by
  rw [BitVec.toNat_add, zext_toNat]

/-- The 16-bit pointer at an address of page zero; its high byte stays in page zero (R107, R108). -/
def pointerAt (s : State) (p : Nat) : Nat :=
  256 * (s.read .pointerHigh (BitVec.ofNat 16 ((p + 1) % 256))).toNat + (s.read .pointerLow (BitVec.ofNat 16 p)).toNat

theorem join_pointer_toNat (s : State) (b : Byte) :
    (join (s.read .pointerHigh (zext (b + 1))) (s.read .pointerLow (zext b))).toNat = pointerAt s b.toNat := by
  have hzext (c : Byte) : zext c = BitVec.ofNat 16 c.toNat := (BitVec.ofNat_toNat 16 c).symm
  rw [join_toNat, hzext, hzext, BitVec.toNat_add]
  rfl

theorem effAddr_indX_toNat (b1 : Byte) (s : State) :
    (effAddr (.indX b1) s).toNat = pointerAt s ((b1.toNat + s.x.toNat) % 256) :=
  join_pointer_toNat s (b1 + s.x)

theorem effAddr_indY_toNat (b1 : Byte) (s : State) :
    (effAddr (.indY b1) s).toNat = (pointerAt s b1.toNat + s.y.toNat) % 65536 := by
  rw [← join_pointer_toNat]
  exact add_zext_toNat _ _

/-- The un-indexed address and an index (R110, R111). -/
theorem join_add_zext_toNat (b1 b2 b : Byte) :
    (join b2 b1 + zext b).toNat = (256 * b2.toNat + b1.toNat + b.toNat) % 65536 := by
  rw [add_zext_toNat, join_toNat]

/-! ### The order of an indexed absolute access -/

/-- The mnemonics of class read with a row in `a16,X` or `a16,Y` (R88, R114). -/
def indexedReading : List Mnemonic := [.ora, .nopUndoc, .and, .eor, .adc, .lda, .las, .ldy, .ldx, .lax, .cmp, .sbc]

/-- The mnemonics of class write with a row in `a16,X` or `a16,Y` (R88, R114). -/
def indexedWriting : List Mnemonic := [.sta, .shs, .shy, .shx, .sha]

/-- The mnemonics of class read/modify/write with a row in `a16,X` or `a16,Y` (R88, R114). -/
def indexedStepping : List Mnemonic := [.slo, .asl, .rla, .rol, .sre, .lsr, .rra, .ror, .dcp, .dec, .isc, .inc]

theorem mnemonicTraffic_of_indexedReading : ∀ n ∈ indexedReading, mnemonicTraffic n = .read := by decide

theorem mnemonicTraffic_of_indexedWriting : ∀ n ∈ indexedWriting, mnemonicTraffic n = .write := by decide

theorem mnemonicTraffic_of_indexedStepping : ∀ n ∈ indexedStepping, mnemonicTraffic n = .readModifyWrite := by
  decide

/-- The three lists hold the mnemonic of every row in `a16,X` or `a16,Y` (R88). -/
theorem mnemonic_mem_of_indexed {i : Instr} {m : MemMode} {b1 b2 : Byte} (hm : m = .absX b1 b2 ∨ m = .absY b1 b2)
    (hoperand : i.operand = .memory m) : i.mnemonic ∈ indexedReading ++ indexedWriting ++ indexedStepping := by
  cases i with
  | oraAbsX _ _ | nopAbsX1C _ _ | nopAbsX3C _ _ | nopAbsX5C _ _ | nopAbsX7C _ _ | nopAbsXDC _ _ | nopAbsXFC _ _
  | andAbsX _ _ | eorAbsX _ _ | adcAbsX _ _ | ldaAbsX _ _ | ldyAbsX _ _ | cmpAbsX _ _ | sbcAbsX _ _
  | oraAbsY _ _ | andAbsY _ _ | eorAbsY _ _ | adcAbsY _ _ | ldaAbsY _ _ | lasAbsY _ _ | ldxAbsY _ _ | laxAbsY _ _
  | cmpAbsY _ _ | sbcAbsY _ _
  | staAbsX _ _ | staAbsY _ _ | shsAbsY _ _ | shyAbsX _ _ | shxAbsY _ _ | shaAbsY _ _
  | sloAbsX _ _ | aslAbsX _ _ | rlaAbsX _ _ | rolAbsX _ _ | sreAbsX _ _ | lsrAbsX _ _ | rraAbsX _ _ | rorAbsX _ _
  | dcpAbsX _ _ | decAbsX _ _ | iscAbsX _ _ | incAbsX _ _
  | sloAbsY _ _ | rlaAbsY _ _ | sreAbsY _ _ | rraAbsY _ _ | dcpAbsY _ _ | iscAbsY _ _ => exact of_decide_eq_true rfl
  | _ => obtain rfl | rfl := hm <;> cases hoperand

theorem fetchAccesses_three (s : State) :
    fetchAccesses 3 s = [.read s.pc, .read (s.pc + 1), .read (s.pc + 2)] := by
  have hfetch : fetchAccesses 3 s = [.read (s.pc + 0), .read (s.pc + 1), .read (s.pc + 2)] := rfl
  rw [hfetch, add_zero]

/-- The reads before the operand access in `a16,X` and `a16,Y`: the instruction's three bytes, then the discarded read
of the un-indexed address (R58, R60). -/
def indexedReads (b1 b2 : Byte) (s : State) : List Access :=
  [.read s.pc, .read (s.pc + 1), .read (s.pc + 2), .read (join b2 b1)]

section
variable {i : Instr} {m : MemMode} {b1 b2 : Byte} (hm : m = .absX b1 b2 ∨ m = .absY b1 b2)
  (hoperand : i.operand = .memory m) (s : State)
include hm hoperand

/-- The trace in `a16,X` and `a16,Y`, where `operand` stands for the accesses at the effective address (R60). -/
theorem busTrace_of_indexed {traffic : Traffic} {operand : List Access}
    (htraffic : mnemonicTraffic i.mnemonic = traffic)
    (haccesses : operandAccesses traffic (.memory m) s = modeAccesses m s ++ operand) :
    busTrace i s = indexedReads b1 b2 s ++ operand := by
  have hlength : i.length = 3 := by
    rw [Instr.length, hoperand]; obtain rfl | rfl := hm <;> rfl
  have hmode : modeAccesses m s = [.read (join b2 b1)] := by
    obtain rfl | rfl := hm <;> rfl
  rw [busTrace, hlength, htraffic, hoperand, haccesses, hmode, fetchAccesses_three]
  rfl

end

/-- Settles O55: each address as a number, then the trace by the traffic of the mnemonic. -/
theorem effectiveAddresses : Obligations.EffectiveAddresses := by
  intro b1 b2 s ptr word
  refine ⟨zext_toNat b1, zext_toNat (b1 + s.x), zext_toNat (b1 + s.y), effAddr_indX_toNat b1 s,
    effAddr_indY_toNat b1 s, join_toNat b2 b1, join_add_zext_toNat b1 b2 s.x, join_add_zext_toNat b1 b2 s.y,
    rfl, rfl, ?_⟩
  intro reading writing stepping before m hmem i hoperand
  have hm : m = .absX b1 b2 ∨ m = .absY b1 b2 := by simpa using hmem
  exact ⟨mnemonic_mem_of_indexed hm hoperand,
    fun hn => busTrace_of_indexed hm hoperand s (mnemonicTraffic_of_indexedReading _ hn) rfl,
    fun hn => busTrace_of_indexed hm hoperand s (mnemonicTraffic_of_indexedWriting _ hn) rfl,
    fun hn => busTrace_of_indexed hm hoperand s (mnemonicTraffic_of_indexedStepping _ hn) rfl⟩

/-! ### Cycle counts -/

/-- An index crosses a page exactly when the low byte of the base and the index sum to more than 255 (R115). -/
theorem hi_join_add_zext_bne (h l b : Byte) :
    (hi (join h l + zext b) != hi (join h l)) = decide (255 < l.toNat + b.toNat) := by
  have hh := h.isLt
  have hl := l.isLt
  have hb := b.isLt
  rw [Bool.eq_iff_iff, bne_iff_ne, ne_eq, ← BitVec.toNat_inj, hi_toNat, hi_toNat, join_add_zext_toNat, join_toNat,
    decide_eq_true_iff]
  omega

/-- The target of a branch as a number: a signed offset from the next instruction (R113). -/
theorem branchTarget_eq_ofInt (b1 : Byte) (s : State) :
    branchTarget b1 s = BitVec.ofInt 16 (s.pc.toNat + 2 + b1.toInt) := by
  rw [BitVec.ofInt_add, BitVec.ofInt_add, BitVec.ofInt_natCast, BitVec.ofNat_toNat, BitVec.setWidth_eq]
  rfl

/-- A branch leaves the page of the next instruction exactly when the two addresses differ above their low bytes
(R115, D19). -/
theorem hi_branchTarget_bne (b1 : Byte) (s : State) :
    (hi (branchTarget b1 s) != hi (s.pc + 2)) =
      decide ((BitVec.ofInt 16 (s.pc.toNat + 2 + b1.toInt)).toNat / 256 ≠ (s.pc.toNat + 2) % 65536 / 256) := by
  rw [Bool.eq_iff_iff, bne_iff_ne, ne_eq, ← BitVec.toNat_inj, hi_toNat, hi_toNat, branchTarget_eq_ofInt,
    BitVec.toNat_add, decide_eq_true_iff]
  rfl

section
variable {i : Instr} {n : Nat} (s : State)

theorem instrCycles_of_fixed (htiming : instrTiming i = .fixed n) : instrCycles i s = some n := by
  simp only [instrCycles, htiming]

theorem instrCycles_of_never (htiming : instrTiming i = .never) : instrCycles i s = none := by
  simp only [instrCycles, htiming]

/-- The letter `p` in a mode that adds the index `b` to the base `{h, l}` (R115, D19). -/
theorem instrCycles_of_paged {m : MemMode} {h l b : Byte} (hrow : (instrTiming i, i.operand) = (.paged n, .memory m))
    (hbase : baseAddr m s = join h l) (heff : effAddr m s = join h l + zext b) :
    instrCycles i s = some (if 255 < l.toNat + b.toNat then n + 1 else n) := by
  obtain ⟨htiming, hoperand⟩ := Prod.mk.inj hrow
  have hcrossed : instrPageCrossed i s = decide (255 < l.toNat + b.toNat) := by
    rw [← hi_join_add_zext_bne h l b, ← heff, ← hbase, instrPageCrossed, hoperand]
    rfl
  simp only [instrCycles, htiming, hcrossed, bitVal, decide_eq_true_eq]
  split <;> rfl

/-- The letters `t` and `p` of a branch that is taken when `taken` says so (R150, R115, D19). -/
theorem instrCycles_of_branch {b1 : Byte} {taken : Bool}
    (hrow : (instrTiming i, i.operand, instrBranchTaken i s) = (.branch, .relative b1, taken)) :
    instrCycles i s = some (if taken = false then 2
      else if (BitVec.ofInt 16 (s.pc.toNat + 2 + b1.toInt)).toNat / 256 = (s.pc.toNat + 2) % 65536 / 256 then 3
      else 4) := by
  simp only [Prod.mk.injEq] at hrow
  obtain ⟨htiming, hoperand, rfl⟩ := hrow
  have hcrossed : instrPageCrossed i s = (hi (branchTarget b1 s) != hi (s.pc + 2)) := by
    rw [instrPageCrossed, hoperand]
  simp only [instrCycles, htiming, hcrossed, hi_branchTarget_bne]
  cases instrBranchTaken i s with
  | false => rfl
  | true =>
    simp only [bitVal, Bool.true_and, decide_eq_true_eq, ite_not, if_true, Bool.true_eq_false, if_false]
    split <;> rfl

end

/-- Settles O57, list by list: every row of a list has the list's cycle string and addressing mode. -/
theorem cyclesCountPageCrossings : Obligations.CyclesCountPageCrossings := by
  intro b1 b2 s
  refine ⟨fun row hrow => instrCycles_of_paged s (m := .absX b1 b2) ?absX rfl rfl,
    fun row hrow => instrCycles_of_paged s (m := .absY b1 b2) ?absY rfl rfl,
    fun row hrow => instrCycles_of_paged s (m := .indY b1) ?indY rfl rfl,
    fun row hrow => instrCycles_of_branch s ?branches, fun row hrow => instrCycles_of_never s ?jam,
    fun i n => instrCycles_of_fixed s, instrCycles_of_fixed s ?sta⟩
  case absX | absY | indY | branches | jam =>
    revert row
    refine List.map_inj_left.mp ?_
    dsimp only [List.map, instrTiming, Instr.opcode]
    rfl
  case sta =>
    dsimp only [instrTiming, Instr.opcode]
    rfl

end Sys2Proof.Machine

/-! PROOFS. Arithmetic (41_arith.md): binary addition and subtraction of bytes against their range tests and sign
formulas, packed BCD, and what ADC, SBC and the compares do with their operand byte. -/

namespace Sys2Proof.Machine

/-! ### Bytes and bits as numbers -/

theorem bitVal_le_one (b : Bool) : bitVal b ≤ 1 := by cases b <;> decide

/-- Bit 7 of a byte says that it is 128 or more (R6). -/
theorem getLsbD_seven (v : Byte) : v.getLsbD 7 = decide (128 ≤ v.toNat) :=
  (BitVec.msb_eq_getLsbD_last v).symm.trans (BitVec.msb_eq_decide v)

/-- The signed value of a byte, by its bit 7 (R6). -/
theorem toInt_eq_ite (v : Byte) : v.toInt = if 128 ≤ v.toNat then (v.toNat : Int) - 256 else v.toNat := by
  rw [BitVec.toInt_eq_toNat_cond]
  split_ifs <;> omega

/-- `m xor FF` as a number (R120). -/
theorem toNat_xor_FF (m : Byte) : (m ^^^ 0xFF).toNat = 255 - m.toNat :=
  (congrArg BitVec.toNat BitVec.xor_allOnes).trans BitVec.toNat_not

/-- `m xor FF` as a signed number (R120). -/
theorem toInt_xor_FF (m : Byte) : (m ^^^ 0xFF).toInt = -1 - m.toInt := by
  have hm := m.isLt
  rw [toInt_eq_ite, toInt_eq_ite, toNat_xor_FF]
  split_ifs <;> omega

theorem not_fitsSigned (t : Int) : (!fitsSigned t) = decide (¬(-128 ≤ t ∧ t ≤ 127)) := by
  rw [fitsSigned, decide_not, Bool.decide_and]

/-! ### Binary addition and subtraction -/

section
variable (a m : Byte) (c : Bool)

theorem addBinary_value_toNat : (addBinary a m c).value.toNat = (a.toNat + m.toNat + bitVal c) % 256 :=
  BitVec.toNat_ofNat _ 8

theorem addBinary_n : (addBinary a m c).n = (addBinary a m c).value.getLsbD 7 :=
  BitVec.msb_eq_getLsbD_last (addBinary a m c).value

theorem addBinary_z : (addBinary a m c).z = decide ((addBinary a m c).value = 0) :=
  beq_eq_decide _ _

theorem addBinary_c : (addBinary a m c).c = decide (255 < a.toNat + m.toNat + bitVal c) := rfl

theorem addBinary_v : (addBinary a m c).v =
    decide (¬(-128 ≤ a.toInt + m.toInt + bitVal c ∧ a.toInt + m.toInt + bitVal c ≤ 127)) :=
  not_fitsSigned _

/-- A signed sum leaves the range exactly when the operands have one sign and the result has the other (R120). -/
theorem addBinary_v_eq_sign : (addBinary a m c).v =
    ((a ^^^ (addBinary a m c).value) &&& (m ^^^ (addBinary a m c).value)).getLsbD 7 := by
  have hsum := addBinary_value_toNat a m c
  have hc := bitVal_le_one c
  rw [addBinary_v, BitVec.getLsbD_and, BitVec.getLsbD_xor, BitVec.getLsbD_xor, getLsbD_seven, getLsbD_seven,
    getLsbD_seven, toInt_eq_ite, toInt_eq_ite, Bool.eq_iff_iff]
  simp only [Bool.and_eq_true, ← Bool.bne_eq_xor, bne_iff_ne, ne_eq, decide_eq_decide, decide_eq_true_eq]
  split_ifs <;> omega

/-- Subtraction is addition of the complement, in the byte and in all flags (R120). -/
theorem subBinary_eq_addBinary : subBinary a m c = addBinary a (m ^^^ 0xFF) c := by
  have hm := m.isLt
  have hvalue : BitVec.ofInt 8 ((a.toNat : Int) - m.toNat - (1 - bitVal c : Int)) =
      BitVec.ofNat 8 (a.toNat + (255 - m.toNat) + bitVal c) := by
    apply BitVec.eq_of_toNat_eq
    rw [BitVec.toNat_ofInt, BitVec.toNat_ofNat]
    omega
  have hsigned : a.toInt - m.toInt - (1 - bitVal c : Int) = a.toInt + (-1 - m.toInt) + bitVal c := by ring
  have hcarry : decide (0 ≤ (a.toNat : Int) - m.toNat - (1 - bitVal c : Int)) =
      decide (255 < a.toNat + (255 - m.toNat) + bitVal c) := decide_eq_decide.mpr (by omega)
  simp only [subBinary, addBinary, toNat_xor_FF, toInt_xor_FF, hvalue, hsigned, hcarry]

theorem subBinary_value_toNat : ((subBinary a m c).value.toNat : Int) =
    ((a.toNat : Int) - m.toNat - (1 - bitVal c : Int)) % 256 := by
  have hm := m.isLt
  rw [subBinary_eq_addBinary, addBinary_value_toNat, toNat_xor_FF]
  omega

theorem subBinary_n : (subBinary a m c).n = (subBinary a m c).value.getLsbD 7 :=
  BitVec.msb_eq_getLsbD_last (subBinary a m c).value

theorem subBinary_z : (subBinary a m c).z = decide ((subBinary a m c).value = 0) :=
  beq_eq_decide _ _

/-- The carry of a subtraction is the borrow's complement (R120, R124). -/
theorem subBinary_c : (subBinary a m c).c = decide (m.toNat + (1 - bitVal c) ≤ a.toNat) := by
  have hc := bitVal_le_one c
  exact decide_eq_decide.mpr (by omega)

theorem subBinary_v : (subBinary a m c).v = decide (¬(-128 ≤ a.toInt - m.toInt - (1 - bitVal c : Int) ∧
    a.toInt - m.toInt - (1 - bitVal c : Int) ≤ 127)) :=
  not_fitsSigned _

/-- On one bit, the sign formula of a subtraction is that of the addition of the complement (R120). -/
theorem signBit_of_complement :
    ∀ x y r : Bool, ((x ^^ r) && ((y ^^ true) ^^ r)) = ((x ^^ y) && (x ^^ r)) := by
  decide

/-- A signed difference leaves the range exactly when the operands' signs differ and the result has not the first's
(R120). -/
theorem subBinary_v_eq_sign : (subBinary a m c).v =
    ((a ^^^ m) &&& (a ^^^ (subBinary a m c).value)).getLsbD 7 := by
  have hFF : (0xFF : Byte).getLsbD 7 = true := rfl
  rw [subBinary_eq_addBinary, addBinary_v_eq_sign]
  simp only [BitVec.getLsbD_and, BitVec.getLsbD_xor, hFF, signBit_of_complement]

end

/-- Settles O58, result by result; the subtraction's follow from those of the addition of the complement. -/
theorem binaryArithmeticHelpers : Obligations.BinaryArithmeticHelpers := fun a m c =>
  ⟨addBinary_value_toNat a m c, addBinary_c a m c, addBinary_v a m c, addBinary_v_eq_sign a m c,
    subBinary_value_toNat a m c, rfl, subBinary_v a m c, subBinary_v_eq_sign a m c, subBinary_eq_addBinary a m c⟩

/-! ### Packed BCD -/

section
variable {n : Nat} (hn : n < 100)
include hn

theorem bcdByte_toNat : (bcdByte n).toNat = 16 * (n / 10) + n % 10 := by
  rw [bcdByte, BitVec.toNat_ofNat]
  omega

theorem validBcd_bcdByte : validBcd (bcdByte n) = true := by
  rw [validBcd, bcdByte_toNat hn, Bool.and_eq_true, decide_eq_true_iff, decide_eq_true_iff]
  omega

/-- `dec` is the inverse of `bcd` (R121). -/
theorem bcdValue_bcdByte : bcdValue (bcdByte n) = n := by
  rw [bcdValue, bcdByte_toNat hn]
  omega

end

section
variable {a m : Byte} (c : Bool) (ha : validBcd a = true) (hm : validBcd m = true)
include ha hm

/-- The byte and the carry of a decimal addition of valid BCD operands (R121). -/
theorem decAdc_of_valid :
    validBcd (decAdc a m c).value = true ∧
      (bcdValue (decAdc a m c).value : Int) = ((bcdValue a + bcdValue m + bitVal c) % 100 : Nat) ∧
      (decAdc a m c).c = decide (99 < bcdValue a + bcdValue m + bitVal c) := by
  have hlt := Nat.mod_lt (bcdValue a + bcdValue m + bitVal c) (y := 100) (by decide)
  simp only [decAdc, ha, hm, Bool.and_self, if_true, validBcd_bcdByte hlt, bcdValue_bcdByte hlt, and_self]

/-- The byte and the not-borrow of a decimal subtraction of valid BCD operands (R121). -/
theorem decSbc_of_valid :
    validBcd (decSbc a m c).value = true ∧
      (bcdValue (decSbc a m c).value : Int) = ((bcdValue a : Int) - bcdValue m - (1 - bitVal c : Int)) % 100 ∧
      (decSbc a m c).c = decide (bcdValue m + (1 - bitVal c) ≤ bcdValue a) := by
  have hc := bitVal_le_one c
  have hborrow : decide (0 ≤ (bcdValue a : Int) - bcdValue m - (1 - bitVal c : Int)) =
      decide (bcdValue m + (1 - bitVal c) ≤ bcdValue a) := decide_eq_decide.mpr (by omega)
  have hnonneg := Int.emod_nonneg ((bcdValue a : Int) - bcdValue m - (1 - bitVal c : Int)) (b := 100) (by decide)
  have hlt := (Int.toNat_lt hnonneg).mpr (Int.emod_lt_of_pos _ (by decide : (0 : Int) < 100))
  simp only [decSbc, ha, hm, Bool.and_self, if_true, validBcd_bcdByte hlt, bcdValue_bcdByte hlt, hborrow,
    Int.toNat_of_nonneg hnonneg, and_self]

end

/-! ### The effect of ADC, SBC and a compare -/

section
variable {s : State} (m : Byte)

theorem State.adc_of_decimal (hd : s.p.d = true) :
    s.adc m = { s with a := (decAdc s.a m s.p.c).value, p := s.p.setAlu (decAdc s.a m s.p.c) } := by
  simp only [State.adc, addResult, hd, if_true]

theorem State.sbc_of_decimal (hd : s.p.d = true) :
    s.sbc m = { s with a := (decSbc s.a m s.p.c).value, p := s.p.setAlu (decSbc s.a m s.p.c) } := by
  simp only [State.sbc, subResult, hd, if_true]

/-- ADC with D = 0 in the statements' terms (R120, R123). -/
theorem State.adc_of_binary (hd : s.p.d = false) :
    let r := (addBinary s.a m s.p.c).value
    s.adc m = { s with a := r, p := { s.p with
      n := r.getLsbD 7, v := ((s.a ^^^ r) &&& (m ^^^ r)).getLsbD 7, z := decide (r = 0),
      c := decide (255 < s.a.toNat + m.toNat + bitVal s.p.c) } } := by
  simp only [State.adc, addResult, hd, Bool.false_eq_true, if_false, Status.setAlu, addBinary_n, addBinary_v_eq_sign,
    addBinary_z, addBinary_c]

/-- SBC with D = 0 in the statements' terms (R120, R124). -/
theorem State.sbc_of_binary (hd : s.p.d = false) :
    let r := (subBinary s.a m s.p.c).value
    s.sbc m = { s with a := r, p := { s.p with
      n := r.getLsbD 7, v := ((s.a ^^^ m) &&& (s.a ^^^ r)).getLsbD 7, z := decide (r = 0),
      c := decide (m.toNat + (1 - bitVal s.p.c) ≤ s.a.toNat) } } := by
  simp only [State.sbc, subResult, hd, Bool.false_eq_true, if_false, Status.setAlu, subBinary_n, subBinary_v_eq_sign,
    subBinary_z, subBinary_c]

/-- The effect that CMP, CPX and CPY share: a compare of the byte `r`, which is A, X or Y (R122). -/
def State.compareWith (r m : Byte) (s : State) : State := { s with p := s.p.compare r m }

/-- A compare of the byte `r` in the statements' terms (R122). -/
theorem Status.compare_eq (p : Status) (r : Byte) :
    p.compare r m = { p with n := decide (128 ≤ (256 + r.toNat - m.toNat) % 256), z := decide (r = m),
                             c := decide (m.toNat ≤ r.toNat) } := by
  have hm := m.isLt
  have hdifference : (r - m).toNat = (256 + r.toNat - m.toNat) % 256 := by
    rw [BitVec.toNat_sub]
    omega
  have hzero : r - m = 0 ↔ r = m := sub_eq_zero
  simp only [Status.compare, Status.setNZ_eq, getLsbD_seven, hdifference, hzero]

end

/-! ### Rows of class read -/

/-- The row is one of the opcode map, and in `s` its instruction is of class read with the effect `f` (R88, R114). -/
structure ReadRow.Performs (row : ReadRow) (f : Byte → State → State) (s : State) : Prop where
  correct : row.Correct
  exec_eq : exec row.instr s = readClass row.source f s

section
variable {i : Instr} {op : Byte} {cycles : Timing} (hopcode : i.opcode = op)
  (hcycles : (timingTable.getD (op.toNat / 16) []).getD (op.toNat % 16) .never = cycles)
include hopcode hcycles

/-- A row of the opcode map has the cycle string that stands at its opcode byte (R88, R300). -/
theorem isRow_of_opcode {o : Operand} (hoperand : i.operand = o) : IsRow i op o cycles := by
  subst hopcode hoperand
  exact ⟨rfl, rfl, hcycles⟩

theorem ReadRow.Performs.of_opcode {src : Source} {f : Byte → State → State} {s : State}
    (hoperand : i.operand = sourceOperand src) (hexec : exec i s = readClass src f s) :
    ReadRow.Performs ⟨i, op, src, cycles⟩ f s :=
  ⟨isRow_of_opcode hopcode hcycles hoperand, hexec⟩

end

theorem ReadRow.Performs.exec_eq_next {row : ReadRow} {f : Byte → State → State} {s : State} (h : row.Performs f s)
    (hopen : sourceBlocked row.source s = false) :
    exec row.instr s = .next ((f (sourceValue row.source s) s).retire row.source.length) :=
  h.exec_eq.trans (readClass_eq_next.mpr ⟨hopen, rfl⟩)

/-- The rows of ADC (R123). -/
def adcRows (b1 b2 : Byte) : List ReadRow :=
  [⟨.adcIndX b1, 0x61, .memory (.indX b1), .fixed 6⟩,
   ⟨.adcZp b1, 0x65, .memory (.zp b1), .fixed 3⟩,
   ⟨.adcImm b1, 0x69, .immediate b1, .fixed 2⟩,
   ⟨.adcAbs b1 b2, 0x6D, .memory (.abs b1 b2), .fixed 4⟩,
   ⟨.adcIndY b1, 0x71, .memory (.indY b1), .paged 5⟩,
   ⟨.adcZpX b1, 0x75, .memory (.zpX b1), .fixed 4⟩,
   ⟨.adcAbsY b1 b2, 0x79, .memory (.absY b1 b2), .paged 4⟩,
   ⟨.adcAbsX b1 b2, 0x7D, .memory (.absX b1 b2), .paged 4⟩]

/-- The rows of SBC and *SBC (R124, R243). -/
def sbcRows (b1 b2 : Byte) : List ReadRow :=
  [⟨.sbcIndX b1, 0xE1, .memory (.indX b1), .fixed 6⟩,
   ⟨.sbcZp b1, 0xE5, .memory (.zp b1), .fixed 3⟩,
   ⟨.sbcImm b1, 0xE9, .immediate b1, .fixed 2⟩,
   ⟨.sbcImmEB b1, 0xEB, .immediate b1, .fixed 2⟩,
   ⟨.sbcAbs b1 b2, 0xED, .memory (.abs b1 b2), .fixed 4⟩,
   ⟨.sbcIndY b1, 0xF1, .memory (.indY b1), .paged 5⟩,
   ⟨.sbcZpX b1, 0xF5, .memory (.zpX b1), .fixed 4⟩,
   ⟨.sbcAbsY b1 b2, 0xF9, .memory (.absY b1 b2), .paged 4⟩,
   ⟨.sbcAbsX b1 b2, 0xFD, .memory (.absX b1 b2), .paged 4⟩]

/-- The rows of CMP, CPX and CPY, each with the register that it compares (R125, R126, R127). -/
def compareRows (b1 b2 : Byte) (s : State) : List (ReadRow × Byte) :=
  [(⟨.cpyImm b1, 0xC0, .immediate b1, .fixed 2⟩, s.y),
   (⟨.cmpIndX b1, 0xC1, .memory (.indX b1), .fixed 6⟩, s.a),
   (⟨.cpyZp b1, 0xC4, .memory (.zp b1), .fixed 3⟩, s.y),
   (⟨.cmpZp b1, 0xC5, .memory (.zp b1), .fixed 3⟩, s.a),
   (⟨.cmpImm b1, 0xC9, .immediate b1, .fixed 2⟩, s.a),
   (⟨.cpyAbs b1 b2, 0xCC, .memory (.abs b1 b2), .fixed 4⟩, s.y),
   (⟨.cmpAbs b1 b2, 0xCD, .memory (.abs b1 b2), .fixed 4⟩, s.a),
   (⟨.cmpIndY b1, 0xD1, .memory (.indY b1), .paged 5⟩, s.a),
   (⟨.cmpZpX b1, 0xD5, .memory (.zpX b1), .fixed 4⟩, s.a),
   (⟨.cmpAbsY b1 b2, 0xD9, .memory (.absY b1 b2), .paged 4⟩, s.a),
   (⟨.cmpAbsX b1 b2, 0xDD, .memory (.absX b1 b2), .paged 4⟩, s.a),
   (⟨.cpxImm b1, 0xE0, .immediate b1, .fixed 2⟩, s.x),
   (⟨.cpxZp b1, 0xE4, .memory (.zp b1), .fixed 3⟩, s.x),
   (⟨.cpxAbs b1 b2, 0xEC, .memory (.abs b1 b2), .fixed 4⟩, s.x)]

theorem adcRows_perform (b1 b2 : Byte) (s : State) : ∀ row ∈ adcRows b1 b2, row.Performs State.adc s := by
  refine List.forall_iff_forall_mem.mp ?_
  dsimp only [adcRows, List.Forall]
  and_intros
  all_goals apply ReadRow.Performs.of_opcode <;> rfl

theorem sbcRows_perform (b1 b2 : Byte) (s : State) : ∀ row ∈ sbcRows b1 b2, row.Performs State.sbc s := by
  refine List.forall_iff_forall_mem.mp ?_
  dsimp only [sbcRows, List.Forall]
  and_intros
  all_goals apply ReadRow.Performs.of_opcode <;> rfl

theorem compareRows_perform (b1 b2 : Byte) (s : State) :
    ∀ row ∈ compareRows b1 b2 s, row.1.Performs (State.compareWith row.2) s := by
  refine List.forall_iff_forall_mem.mp ?_
  dsimp only [compareRows, List.Forall]
  and_intros
  all_goals apply ReadRow.Performs.of_opcode <;> rfl

/-- Settles O28, from the rows of ADC and its effect with D = 0. -/
theorem adcBinary : Obligations.AdcBinary := by
  intro b1 b2 s hd row hrow
  have hperforms := adcRows_perform b1 b2 s row hrow
  refine ⟨hperforms.correct, fun hopen => ⟨_, addBinary_value_toNat s.a (sourceValue row.source s) s.p.c, ?_⟩⟩
  rw [hperforms.exec_eq_next hopen, State.adc_of_binary _ hd]

/-- Settles O29, from the rows of SBC and its effect with D = 0. -/
theorem sbcBinary : Obligations.SbcBinary := by
  intro b1 b2 s hd row hrow
  have hperforms := sbcRows_perform b1 b2 s row hrow
  refine ⟨hperforms.correct, fun hopen => ?_⟩
  intro m
  have hvalue := subBinary_value_toNat s.a m s.p.c
  have hm := m.isLt
  have hc := bitVal_le_one s.p.c
  refine ⟨(subBinary s.a m s.p.c).value, by omega, ?_⟩
  rw [hperforms.exec_eq_next hopen, State.sbc_of_binary _ hd]

/-- Settles O30, from the rows of ADC, its effect with D = 1 and the decimal addition. -/
theorem adcDecimal : Obligations.AdcDecimal := by
  intro b1 b2 s hd row hrow
  have hperforms := adcRows_perform b1 b2 s row hrow
  refine ⟨hperforms.correct, fun hopen => ⟨_, hperforms.exec_eq_next hopen, ?_⟩⟩
  rw [State.adc_of_decimal _ hd]
  exact ⟨decAdc_of_valid s.p.c, _, _, _, _, rfl⟩

/-- Settles O31, from the rows of SBC, its effect with D = 1 and the decimal subtraction. -/
theorem sbcDecimal : Obligations.SbcDecimal := by
  intro b1 b2 s hd row hrow
  have hperforms := sbcRows_perform b1 b2 s row hrow
  refine ⟨hperforms.correct, fun hopen => ⟨_, hperforms.exec_eq_next hopen, ?_⟩⟩
  rw [State.sbc_of_decimal _ hd]
  exact ⟨decSbc_of_valid s.p.c, _, _, _, _, rfl⟩

/-- Settles O32, from the rows of the three compares, each with its register. -/
theorem comparesAreUnsigned : Obligations.ComparesAreUnsigned := by
  intro b1 b2 s row hrow
  have hperforms := compareRows_perform b1 b2 s row hrow
  refine ⟨hperforms.correct, fun hopen => ?_⟩
  rw [hperforms.exec_eq_next hopen, State.compareWith, Status.compare_eq]

end Sys2Proof.Machine

/-! PROOFS. Logic (42_logic.md): what AND, ORA, EOR and BIT do with their operand byte. -/

namespace Sys2Proof.Machine

/-! ### The effect of AND, ORA, EOR and BIT -/

/-- Bit 6 of a byte says that the byte without its bit 7 is 64 or more (R6). -/
theorem getLsbD_six (v : Byte) : v.getLsbD 6 = decide (64 ≤ v.toNat % 128) := by
  rw [← BitVec.testBit_toNat, Nat.testBit_eq_decide_div_mod_eq, decide_eq_decide]
  omega

/-- The effect that AND, ORA and EOR share: A takes its combination by `op` with the operand (R130, R131, R132). -/
def State.combineA (op : Byte → Byte → Byte) (m : Byte) (s : State) : State := s.setA (op s.a m)

/-- A write of A with its N and Z in the statements' terms (R10). -/
theorem State.setA_eq (v : Byte) (s : State) :
    s.setA v = { s with a := v, p := { s.p with n := v.getLsbD 7, z := decide (v = 0) } } := by
  rw [State.setA, Status.setNZ_eq]

/-- BIT in the statements' terms, with N and V as tests of the operand's number (R133). -/
theorem State.bitTest_eq (m : Byte) (s : State) :
    s.bitTest m = { s with p := { s.p with
      n := decide (128 ≤ m.toNat), v := decide (64 ≤ m.toNat % 128), z := decide (s.a &&& m = 0) } } := by
  rw [State.bitTest, getLsbD_seven, getLsbD_six, beq_eq_decide]

/-! ### The rows of AND, ORA, EOR and BIT -/

/-- Settles O26: each row has the effect `State.combineA` of the operation that stands beside it. -/
theorem logicAndOraEor : Obligations.LogicAndOraEor := by
  intro b1 b2 s row hrow
  have hperforms : row.1.Performs (State.combineA row.2) s := by
    revert row
    refine List.forall_iff_forall_mem.mp ?_
    dsimp only [List.Forall]
    and_intros
    all_goals apply ReadRow.Performs.of_opcode <;> rfl
  refine ⟨hperforms.correct, fun hopen => ?_⟩
  rw [hperforms.exec_eq_next hopen, State.combineA, State.setA_eq]

/-- Settles O27: both rows have the effect `State.bitTest`. -/
theorem bitTakesNAndVFromMemory : Obligations.BitTakesNAndVFromMemory := by
  intro b1 b2 s row hrow
  have hperforms : row.Performs State.bitTest s := by
    revert row
    refine List.forall_iff_forall_mem.mp ?_
    dsimp only [List.Forall]
    and_intros
    all_goals apply ReadRow.Performs.of_opcode <;> rfl
  refine ⟨hperforms.correct, fun hopen => ?_⟩
  rw [hperforms.exec_eq_next hopen, State.bitTest_eq]

end Sys2Proof.Machine

/-! PROOFS. Shifts and rotates (43_shift.md): the four byte operations as numbers, their effects on P, and the rows of
class read/modify/write. -/

namespace Sys2Proof.Machine

/-! ### Shifts and rotates of a byte as numbers -/

/-- ASL as a number: twice the byte modulo 256 (R141). -/
theorem aslByte_toNat (v : Byte) : (aslByte v).1.toNat = 2 * v.toNat % 256 := by
  rw [aslByte, BitVec.toNat_shiftLeft, Nat.shiftLeft_eq, pow_one, Nat.mul_comm]

/-- LSR as a number: half the byte (R142). -/
theorem lsrByte_toNat (v : Byte) : (lsrByte v).1.toNat = v.toNat / 2 := by
  rw [lsrByte, BitVec.toNat_ushiftRight, Nat.shiftRight_eq_div_pow, pow_one]

/-- ROL as a number: twice the byte modulo 256, with the carry in bit 0, which the doubling leaves clear (R143). -/
theorem rolByte_toNat (v : Byte) (c : Bool) : (rolByte v c).1.toNat = 2 * v.toNat % 256 + bitVal c := by
  have hcarry : (BitVec.ofNat 8 (bitVal c)).toNat = bitVal c := by cases c <;> rfl
  have hbit : bitVal c < 2 ^ 1 := Nat.lt_succ_of_le (bitVal_le_one c)
  have heven : 2 * v.toNat % 256 = 2 ^ 1 * (v.toNat % 128) := Nat.mul_mod_mul_left 2 v.toNat 128
  calc (rolByte v c).1.toNat = (aslByte v).1.toNat ||| bitVal c := by
        rw [rolByte, BitVec.toNat_or, hcarry, aslByte]
    _ = 2 * v.toNat % 256 + bitVal c := by
        rw [aslByte_toNat, heven, Nat.two_pow_add_eq_or_of_lt hbit]

/-- Bit 7 of a byte rotated right is the input carry (R144). -/
theorem rorByte_getLsbD_seven (v : Byte) (c : Bool) : (rorByte v c).1.getLsbD 7 = c := by
  have hv := v.isLt
  rw [getLsbD_seven, rorByte_toNat]
  cases c with
  | false => simp only [bitVal, Bool.false_eq_true, if_false, decide_eq_false_iff_not]; omega
  | true => simp only [bitVal, if_true, decide_eq_true_eq]; omega

/-! ### The effects of ASL, LSR, ROL and ROR -/

/-- The effect that the shifts share, in the statements' terms (R140). -/
theorem State.shifted_eq (r : Byte × Bool) (s : State) :
    s.shifted r = (r.1, { s with p := { s.p with n := r.1.getLsbD 7, z := decide (r.1 = 0), c := r.2 } }) := by
  rw [State.shifted, Status.setNZ_eq]

theorem State.asl_eq (v : Byte) (s : State) :
    let r := (aslByte v).1
    s.asl v = (r, { s with p := { s.p with n := r.getLsbD 7, z := decide (r = 0), c := v.getLsbD 7 } }) :=
  State.shifted_eq (aslByte v) s

theorem State.lsr_eq (v : Byte) (s : State) :
    let r := (lsrByte v).1
    s.lsr v = (r, { s with p := { s.p with n := false, z := decide (r = 0), c := v.getLsbD 0 } }) := by
  intro r
  rw [State.lsr, beq_eq_decide]
  rfl

theorem State.rol_eq (v : Byte) (s : State) :
    let r := (rolByte v s.p.c).1
    s.rol v = (r, { s with p := { s.p with n := r.getLsbD 7, z := decide (r = 0), c := v.getLsbD 7 } }) :=
  State.shifted_eq (rolByte v s.p.c) s

/-- N after ROR is the input carry, which has entered bit 7 (R144). -/
theorem State.ror_eq (v : Byte) (s : State) :
    let r := (rorByte v s.p.c).1
    s.ror v = (r, { s with p := { s.p with n := s.p.c, z := decide (r = 0), c := v.getLsbD 0 } }) := by
  intro r
  rw [State.ror, State.shifted_eq, rorByte_getLsbD_seven]
  rfl

/-! ### Rows of class read/modify/write -/

/-- The row is one of the opcode map, and in `s` its instruction is of class read/modify/write with the effect `f`
(R59, R88, R114). -/
structure MemRow.Performs (row : MemRow) (f : Byte → State → Byte × State) (s : State) : Prop where
  correct : row.Correct
  exec_eq : exec row.instr s = rmwClass row.mode f s

/-- A row of a list performs `f` where, down the list, the columns of its instruction are those that the row names and
its meaning is that of `f`. For a given list the hypothesis holds by computation. -/
theorem MemRow.Performs.of_mem {rows : List MemRow} {row : MemRow} {f : Byte → State → Byte × State} {s : State}
    (hrow : row ∈ rows)
    (hcolumns : (rows.map fun q => (q.instr.opcode, q.instr.operand,
        (timingTable.getD (q.opcode.toNat / 16) []).getD (q.opcode.toNat % 16) .never, exec q.instr s)) =
      rows.map fun q => (q.opcode, .memory q.mode, q.cycles, rmwClass q.mode f s)) :
    row.Performs f s := by
  have hcolumn := List.map_inj_left.mp hcolumns row hrow
  simp only [Prod.mk.injEq] at hcolumn
  obtain ⟨hopcode, hoperand, hcycles, hexec⟩ := hcolumn
  exact ⟨isRow_of_opcode hopcode hcycles hoperand, hexec⟩

/-- Of the state before it, `StoresExactly` sees only memory and the platform. -/
theorem StoresExactly.of_mem_eq {s t u : State} {cells : List (Addr × Byte)} (h : StoresExactly u t cells)
    (hmem : u.mem = s.mem) (hplat : u.plat = s.plat) : StoresExactly s t cells := by
  have hbyteAt (a : Addr) : u.byteAt a = s.byteAt a := congrArg (Memory.get · a.toNat) hmem
  simpa only [StoresExactly, hbyteAt, hmem, hplat] using h

/-- Where D16 does not refuse the access, such a row stores the byte `r` of its effect at the effective address and
nowhere else; the rest of the next state is the effect's state `u` (R59, R114). -/
theorem MemRow.Performs.exists_next {row : MemRow} {f : Byte → State → Byte × State} {s u : State} {r : Byte}
    (h : row.Performs f s) (hopen : discardedReadBlocked .readModifyWrite row.mode s = false)
    (hf : f (s.read .data (effAddr row.mode s)) s = (r, u)) (hmem : u.mem = s.mem) (hplat : u.plat = s.plat) :
    ∃ t, exec row.instr s = .next t ∧ StoresExactly s t [(effAddr row.mode s, r)] ∧
      t = { u with mem := t.mem }.retire row.mode.length := by
  refine ⟨(u.write (effAddr row.mode s) r).retire row.mode.length, ?_,
    (storesExactly_write _ r u).of_mem_eq hmem hplat, congrArg (State.retire _) (State.write_eq _ r u)⟩
  rw [h.exec_eq, rmwClass_eq_next, hf]
  exact ⟨hopen, rfl⟩

/-- In mode `A` an effect on P alone writes A and P (R102). -/
theorem accumulatorClass_of_effect {f : Byte → State → Byte × State} {s : State} {r : Byte} {p : Status}
    (hf : f s.a s = (r, { s with p := p })) :
    accumulatorClass f s = .next ({ s with a := r, p := p }.retire 1) := by
  rw [accumulatorClass_eq_next, hf]

/-! ### The rows of ASL, LSR, ROL and ROR -/

/-- Settles O24, from the effects of ASL and LSR in mode `A` and in the rows of the memory modes. -/
theorem shiftsAslAndLsr : Obligations.ShiftsAslAndLsr := by
  intro b1 b2 s
  refine ⟨⟨isRow_of_opcode rfl rfl rfl, _, aslByte_toNat s.a, accumulatorClass_of_effect (State.asl_eq s.a s)⟩,
    ⟨isRow_of_opcode rfl rfl rfl, _, lsrByte_toNat s.a, accumulatorClass_of_effect (State.lsr_eq s.a s)⟩,
    fun row hrow => ?asl, fun row hrow => ?lsr⟩
  case asl =>
    have hperforms : row.Performs State.asl s := .of_mem hrow (by dsimp only [List.map]; rfl)
    exact ⟨hperforms.correct, fun hopen =>
      ⟨_, exists_and_left.mpr ⟨aslByte_toNat _, hperforms.exists_next hopen (State.asl_eq _ s) rfl rfl⟩⟩⟩
  case lsr =>
    have hperforms : row.Performs State.lsr s := .of_mem hrow (by dsimp only [List.map]; rfl)
    exact ⟨hperforms.correct, fun hopen =>
      ⟨_, exists_and_left.mpr ⟨lsrByte_toNat _, hperforms.exists_next hopen (State.lsr_eq _ s) rfl rfl⟩⟩⟩

/-- Settles O25, from the effects of ROL and ROR in mode `A` and in the rows of the memory modes. -/
theorem rotatesRolAndRor : Obligations.RotatesRolAndRor := by
  intro b1 b2 s
  refine ⟨⟨isRow_of_opcode rfl rfl rfl, _, rolByte_toNat s.a s.p.c, accumulatorClass_of_effect (State.rol_eq s.a s)⟩,
    ⟨isRow_of_opcode rfl rfl rfl, _, rorByte_toNat s.a s.p.c, accumulatorClass_of_effect (State.ror_eq s.a s)⟩,
    fun row hrow => ?rol, fun row hrow => ?ror⟩
  case rol =>
    have hperforms : row.Performs State.rol s := .of_mem hrow (by dsimp only [List.map]; rfl)
    exact ⟨hperforms.correct, fun hopen =>
      ⟨_, exists_and_left.mpr ⟨rolByte_toNat _ _, hperforms.exists_next hopen (State.rol_eq _ s) rfl rfl⟩⟩⟩
  case ror =>
    have hperforms : row.Performs State.ror s := .of_mem hrow (by dsimp only [List.map]; rfl)
    exact ⟨hperforms.correct, fun hopen =>
      ⟨_, exists_and_left.mpr ⟨rorByte_toNat _ _, hperforms.exists_next hopen (State.ror_eq _ s) rfl rfl⟩⟩⟩

end Sys2Proof.Machine

/-! PROOFS. Branches (44_branch.md): the common rule of the eight branches as a number, and the flag each one tests. -/

namespace Sys2Proof.Machine

/-! ### The common rule -/

/-- The address after an instruction of two bytes, as a number (R12, R26). -/
theorem pc_add_two_eq_ofNat (s : State) : s.pc + 2 = BitVec.ofNat 16 (s.pc.toNat + 2) := by
  rw [BitVec.ofNat_add, BitVec.ofNat_toNat, BitVec.setWidth_eq]
  rfl

/-- The common rule of the branches in the statements' terms: both values of PC are numbers modulo 65536, and no
flag, register or memory byte changes (R150, R113). -/
theorem branchIf_eq (cond : Bool) (b1 : Byte) (s : State) :
    branchIf cond b1 s = .next { s with
      pc := if cond then BitVec.ofInt 16 (s.pc.toNat + 2 + b1.toInt) else BitVec.ofNat 16 (s.pc.toNat + 2)
      iPrev := s.p.i, draws := s.draws + 1 } := by
  rw [branchIf, branchTarget_eq_ofInt, pc_add_two_eq_ofNat, State.endAt]

/-! ### The eight branches -/

/-- Settles O20: each row has the common rule as its meaning, with the condition that stands beside it. -/
theorem branchesTestOneFlag : Obligations.BranchesTestOneFlag := by
  intro b1 s f hf
  have hbranch : IsRow f.1 f.2.1 (.relative b1) .branch ∧ exec f.1 s = branchIf f.2.2 b1 s := by
    revert f
    refine List.forall_iff_forall_mem.mp ?_
    dsimp only [List.Forall]
    refine ⟨?bcc, ?bcs, ?beq, ?bmi, ?bne, ?bpl, ?bvc, ?bvs⟩
    all_goals refine ⟨isRow_of_opcode ?_ ?_ ?_, ?_⟩ <;> rfl
  obtain ⟨hrow, hexec⟩ := hbranch
  exact ⟨hrow, hexec.trans (branchIf_eq f.2.2 b1 s)⟩

end Sys2Proof.Machine

/-! PROOFS. Control transfer (45_control.md): the two bytes of a word, what successive pushes store, the stack that JSR
leaves for RTS, and the five instructions BRK, JMP, JSR, RTI, RTS. -/

namespace Sys2Proof.Machine

/-! ### The bytes of a word and the addresses of the stack -/

@[simp] theorem hi_join (h l : Byte) : hi (join h l) = h := by
  rw [hi, join, BitVec.extractLsb'_append_eq_left]

@[simp] theorem lo_join (h l : Byte) : lo (join h l) = l := by
  rw [lo, join, BitVec.extractLsb'_append_eq_right]

@[simp] theorem join_hi_lo (w : Addr) : join (hi w) (lo w) = w := by
  refine BitVec.eq_of_toNat_eq ?_
  rw [join_toNat, hi_toNat, lo, BitVec.extractLsb'_toNat, Nat.shiftRight_zero]
  omega

/-- The pointer's second byte stands at the next address, or at the start of the page after its last byte (R112). -/
theorem nextInPage_join (h l : Byte) :
    nextInPage (join h l) = if l = 0xFF then join h 0x00 else join h l + 1 := by
  rw [nextInPage, hi_join, lo_join]
  split
  · next hlast => rw [hlast]; rfl
  · next hlast =>
    refine BitVec.eq_of_toNat_eq ?_
    have hl : l.toNat ≠ 255 := fun hnat => hlast (BitVec.eq_of_toNat_eq hnat)
    rw [join_toNat, BitVec.toNat_add, BitVec.toNat_add, join_toNat]
    change 256 * h.toNat + (l.toNat + 1) % 256 = (256 * h.toNat + l.toNat + 1) % 65536
    omega

/-- Different values of S have different addresses in the stack page (R27). -/
theorem stackAddr_injective : Function.Injective stackAddr := fun b c h => by
  simpa only [stackAddr, lo_join] using congrArg lo h

/-! ### Successive pushes -/

/-- A push is the same state with another memory and S one less (R27). -/
theorem State.push_eq (v : Byte) (s : State) : s.push v = { s with mem := (s.push v).mem, sp := s.sp - 1 } :=
  congrArg (fun t : State => { t with sp := s.sp - 1 }) (State.write_eq (stackAddr s.sp) v s)

/-- Successive pushes are the same state with another memory and S less by their number (R27). -/
theorem State.foldl_push_eq (vs : List Byte) (s : State) :
    vs.foldl (fun t v => t.push v) s =
      { s with mem := (vs.foldl (fun t v => t.push v) s).mem, sp := s.sp - BitVec.ofNat 8 vs.length } := by
  induction vs generalizing s with
  | nil => rw [List.length_nil, BitVec.sub_zero]; rfl
  | cons v vs ih =>
    have hsp : s.sp - BitVec.ofNat 8 (vs.length + 1) = s.sp - 1 - BitVec.ofNat 8 vs.length := by
      rw [Nat.add_comm, BitVec.ofNat_add, sub_add_eq_sub_sub]; rfl
    rw [List.length_cons, hsp]
    exact (ih (s.push v)).trans (congrArg
      (fun u : State => { u with
        mem := (vs.foldl (fun (t : State) v => t.push v) (s.push v)).mem, sp := s.sp - 1 - BitVec.ofNat 8 vs.length })
      (State.push_eq v s))

theorem storesExactly_push (v : Byte) (s : State) : StoresExactly s (s.push v) [(stackAddr s.sp, v)] :=
  storesExactly_write (stackAddr s.sp) v s

/-- The stores of one sequence and then those of another, at addresses that all differ from the first's. -/
theorem StoresExactly.trans {s t u : State} {cells later : List (Addr × Byte)} (h : StoresExactly s u cells)
    (hlater : StoresExactly u t later) (hplat : u.plat = s.plat)
    (hwf : Memory.wf s.mem = true → Memory.wf u.mem = true) (hdisjoint : ∀ c ∈ cells, ∀ d ∈ later, c.1 ≠ d.1) :
    StoresExactly s t (cells ++ later) := by
  obtain ⟨hother, hram, hnoRam⟩ := h
  obtain ⟨hother', hram', hnoRam'⟩ := hlater
  rw [hplat] at hram' hnoRam'
  have hkept : ∀ c ∈ cells, t.byteAt c.1 = u.byteAt c.1 := fun c hc => hother' c.1 (hdisjoint c hc)
  have hnew : ∀ d ∈ later, u.byteAt d.1 = s.byteAt d.1 := fun d hd =>
    hother d.1 fun c hc => (hdisjoint c hc d hd).symm
  refine ⟨fun a ha => ?other,
    List.forall_mem_append.mpr ⟨fun c hc hkind hmem => ?ramFirst, fun d hd hkind hmem => ?ramLater⟩,
    List.forall_mem_append.mpr ⟨fun c hc hkind => ?noRamFirst, fun d hd hkind => ?noRamLater⟩⟩
  case other =>
    obtain ⟨hcells, hrest⟩ := List.forall_mem_append.mp ha
    exact (hother' a hrest).trans (hother a hcells)
  case ramFirst => exact (hkept c hc).trans (hram c hc hkind hmem)
  case ramLater => exact hram' d hd hkind (hwf hmem)
  case noRamFirst => exact (hkept c hc).trans (hnoRam c hc hkind)
  case noRamLater => exact (hnoRam' d hd hkind).trans (hnew d hd)

/-- A read of RAM after the stores gives the byte stored there (R52, R53). -/
theorem StoresExactly.read_eq {s t : State} {cells : List (Addr × Byte)} (h : StoresExactly s t cells) (d : Draw)
    (hplat : t.plat = s.plat) (hwf : Memory.wf s.mem = true) {c : Addr × Byte} (hc : c ∈ cells)
    (hram : kindAt s.plat c.1 = .ram) : t.read d c.1 = c.2 := by
  obtain ⟨-, hstored, -⟩ := h
  rw [State.read_of_stored d (.inl (by rwa [hplat])), hstored c hc hram hwf]

/-! ### JSR and RTS -/

/-- What JSR changes besides memory: S, PC, and what every instruction changes (R172). -/
theorem State.jsr_eq (target : Addr) (s : State) :
    s.jsr target = { s with
      mem := (s.jsr target).mem, sp := s.sp - 2, pc := target, iPrev := s.p.i, draws := s.draws + 1 } :=
  congrArg (State.endAt target) (State.foldl_push_eq [hi (s.pc + 2), lo (s.pc + 2)] s)

/-- JSR stores the two bytes of the return address (R172). -/
theorem storesExactly_jsr (target : Addr) (s : State) :
    StoresExactly s (s.jsr target) [(stackAddr s.sp, hi (s.pc + 2)), (stackAddr (s.sp - 1), lo (s.pc + 2))] := by
  refine (storesExactly_push (hi (s.pc + 2)) s).trans (storesExactly_push (lo (s.pc + 2)) (s.push (hi (s.pc + 2))))
    (s.push_plat _) (State.push_mem_wf _) ?_
  simp only [List.forall_mem_singleton]
  exact stackAddr_injective.ne (show s.sp ≠ s.sp - 1 by bv_omega)

/-- Settles O17, from what JSR stores and what else it changes. -/
theorem jsrAndRtsEffects : Obligations.JsrAndRtsEffects :=
  ⟨fun b1 b2 s => ⟨isRow_of_opcode (op := 0x20) rfl rfl rfl, s.jsr (join b2 b1), rfl, storesExactly_jsr _ s,
      State.jsr_eq _ s⟩,
    isRow_of_opcode rfl rfl rfl, fun _ => rfl⟩

/-- Settles O18: the two bytes that RTS pulls are those that JSR stored. -/
theorem rtsReturnsAfterJsr : Obligations.RtsReturnsAfterJsr := by
  intro b1 b2 s hstack hwf
  obtain ⟨hjsr, -, hrts⟩ := jsrAndRtsEffects
  obtain ⟨-, t, hexec, hstores, hframe⟩ := hjsr b1 b2 s
  have hplat : t.plat = s.plat := (congrArg State.plat hframe :)
  have hsp : t.sp = s.sp - 2 := congrArg State.sp hframe
  have hsp1 : t.sp + 1 = s.sp - 1 := by rw [hsp]; bv_omega
  have hsp2 : t.sp + 2 = s.sp := by rw [hsp, sub_add_cancel]
  have hlow : t.read .pull1 (stackAddr (t.sp + 1)) = lo (s.pc + 2) := by
    rw [hsp1]; exact hstores.read_eq _ hplat hwf (.tail _ (.head _)) (hstack _)
  have hhigh : t.read .pull2 (stackAddr (t.sp + 2)) = hi (s.pc + 2) := by
    rw [hsp2]; exact hstores.read_eq _ hplat hwf (.head _) (hstack _)
  refine ⟨t, _, hexec, congrArg State.pc hframe, hrts t, ?pc, hsp2, (congrArg State.p hframe :),
    (congrArg State.a hframe :), (congrArg State.x hframe :), (congrArg State.y hframe :)⟩
  case pc => rw [hhigh, hlow, join_hi_lo, add_assoc]; rfl

/-! ### JMP, BRK and RTI -/

/-- Settles O19; the indirect form by where its pointer's second byte stands. -/
theorem jumpsWriteOnlyPc : Obligations.JumpsWriteOnlyPc := by
  intro b1 b2 s
  refine ⟨isRow_of_opcode (op := 0x4C) rfl rfl rfl, isRow_of_opcode (op := 0x6C) rfl rfl rfl, rfl, ?indirect⟩
  case indirect =>
    rw [← nextInPage_join]
    rfl

/-- No interrupt collides with a BRK where none is signalled, or an IRQ while I masks it (R271, log 13). -/
theorem brkCollision_eq_none {s : State} :
    brkCollision s = none ↔ s.during = none ∨ s.during = some .irq ∧ s.p.i = true := by
  unfold brkCollision
  split
  · next hirq => simp [hirq]
  · next hnmi => simp [hnmi]
  · next hnone => simp [hnone]

/-- Settles O13, from when an interrupt collides with a BRK. -/
theorem brkEntersTheIrqVector : Obligations.BrkEntersTheIrqVector := by
  refine ⟨isRow_of_opcode rfl rfl rfl, fun s hquiet => ?_⟩
  have hbrk : s.brk = s.interruptSequence (s.pc + 2) irqVector true := by
    simp only [State.brk, brkCollision_eq_none.mpr hquiet]
  exact congrArg Host.Outcome.next hbrk

/-- RTI in the statements' terms: the three bytes pulled, and nothing else (R173). -/
theorem State.returnFromInterrupt_eq (s : State) :
    let v := s.read .pull1 (stackAddr (s.sp + 1))
    s.returnFromInterrupt = { s with
      p := ⟨v.getLsbD 7, v.getLsbD 6, v.getLsbD 3, v.getLsbD 2, v.getLsbD 1, v.getLsbD 0⟩
      pc := join (s.read .pull3 (stackAddr (s.sp + 3))) (s.read .pull2 (stackAddr (s.sp + 2)))
      sp := s.sp + 3, iPrev := v.getLsbD 2, draws := s.draws + 1 } := rfl

/-- Settles O15, from what RTI pulls. -/
theorem rtiRestoresStatusAndPc : Obligations.RtiRestoresStatusAndPc :=
  ⟨isRow_of_opcode rfl rfl rfl, fun s => congrArg Host.Outcome.next s.returnFromInterrupt_eq⟩

end Sys2Proof.Machine

/-! PROOFS. The flag instructions and NOP (46_flags_nop.md): how an instruction of one byte ends that writes nothing
but P, and the flag that each of them writes. -/

namespace Sys2Proof.Machine

section
variable {i : Instr} {s : State} {q : Status}

/-- An instruction of one byte that writes only P and keeps I: `iPrev` gets the I after it, which is the one from
before (R26, R40, R101). -/
theorem exec_statusWrite_of_retire (hexec : exec i s = .next ({ s with p := q }.retire 1)) (hkept : q.i = s.p.i) :
    exec i s = .next { s with p := q, pc := s.pc + 1, iPrev := s.p.i, draws := s.draws + 1 } := by
  rw [hexec, ← hkept]
  rfl

/-- CLI and SEI may change I; their end holds the I from before in `iPrev` (R40, R270). -/
theorem exec_statusWrite_of_retireDeferring
    (hexec : exec i s = .next ({ s with p := q }.retireDeferring s.p.i 1)) :
    exec i s = .next { s with p := q, pc := s.pc + 1, iPrev := s.p.i, draws := s.draws + 1 } := by
  rw [hexec]
  rfl

end

/-- Settles O21: CLI and SEI defer the new I, and the other six keep I. -/
theorem flagInstructionsWriteOneFlag : Obligations.FlagInstructionsWriteOneFlag := by
  intro s
  refine List.forall_iff_forall_mem.mp ?_
  dsimp only [List.Forall]
  refine ⟨⟨?_, ?clc⟩, ⟨?_, ?cld⟩, ⟨?_, ?cli⟩, ⟨?_, ?clv⟩, ⟨?_, ?sec⟩, ⟨?_, ?sed⟩, ⟨?_, ?sei⟩, ⟨?_, ?nop⟩⟩
  case cli | sei => exact exec_statusWrite_of_retireDeferring rfl
  case clc | cld | clv | sec | sed | nop => exact exec_statusWrite_of_retire rfl rfl
  all_goals exact isRow_of_opcode rfl rfl rfl

end Sys2Proof.Machine

/-! PROOFS. The decoder on lists of bytes (30_encoding.md): the two round trips, the sample words, and an instruction
that is placed at PC from outside. -/

namespace Sys2Proof.Machine

/-! ### The two round trips -/

/-- A list followed by others reads as itself, and beyond its end as the others do. -/
theorem getD_append_self (l r : List Byte) (n : Nat) (d : Byte) : l.getD n ((l ++ r).getD n d) = (l ++ r).getD n d := by
  obtain hin | hout := Nat.lt_or_ge n l.length
  · rw [List.getD_append _ _ _ _ hin, List.getD_eq_getElem _ _ hin, List.getD_eq_getElem _ _ hin]
  · rw [List.getD_eq_default _ _ hout]

/-- Settles O1: the operand bytes that the decoder takes are the image's own, whatever stands after them. -/
theorem decodeReadsEncodeBack : Obligations.DecodeReadsEncodeBack := by
  intro i rest
  have hi : decodeOpcode i.opcode ((i.operand.bytes ++ rest).getD 0 0) ((i.operand.bytes ++ rest).getD 1 0) = i := by
    rw [← getD_append_self _ _ 0, ← getD_append_self _ _ 1]
    exact decodeOpcode_encode i _ _
  have hlen : i.length ≤ (i.operand.bytes ++ rest).length + 1 := by
    rw [length_eq_succ, List.length_append]
    omega
  have hrest : (i.opcode :: (i.operand.bytes ++ rest)).drop i.length = rest := List.drop_left' (length_encode i)
  exact (decode_cons_of_length_le hi hlen).trans (by rw [hrest])

/-- All that the decoder can answer: the row of the first byte, where its image is complete, and the bytes after it
(R83, R90). -/
theorem decode_cons_eq_ok {op : Byte} {tail rest : List Byte} {i : Instr} (h : decode (op :: tail) = .ok (i, rest)) :
    decodeOpcode op (tail.getD 0 0) (tail.getD 1 0) = i ∧ i.length ≤ tail.length + 1 ∧
      (op :: tail).drop i.length = rest := by
  obtain hlen | hshort := Nat.lt_or_ge (tail.length + 1) (decodeOpcode op (tail.getD 0 0) (tail.getD 1 0)).length
  · rw [decode, if_pos hlen] at h
    cases h
  · rw [decode_cons_of_length_le rfl hshort] at h
    cases h
    exact ⟨rfl, hshort, rfl⟩

/-- The first two bytes of a list, as far as it has them. -/
theorem take_getD_pair {n : Nat} {l : List Byte} (hn : n ≤ 2) (hl : n ≤ l.length) (d : Byte) :
    [l.getD 0 d, l.getD 1 d].take n = l.take n := by
  match n, l, hn with
  | 0, _, _ => rfl
  | 1, _ :: _, _ => rfl
  | 2, _ :: _ :: _, _ => rfl

/-- Settles O2: the decoder's answer encodes to the first bytes of the list, and the rest stands after them. -/
theorem decodedBytesAreTheEncoding : Obligations.DecodedBytesAreTheEncoding := by
  intro bytes rest i h
  cases bytes with
  | nil => cases h
  | cons op tail =>
    obtain ⟨rfl, hlen, rfl⟩ := decode_cons_eq_ok h
    have hsucc := length_eq_succ (decodeOpcode op (tail.getD 0 0) (tail.getD 1 0))
    have hthree := length_le_three (decodeOpcode op (tail.getD 0 0) (tail.getD 1 0))
    have himage := encode_decodeOpcode op (tail.getD 0 0) (tail.getD 1 0)
    rw [hsucc, List.take_succ_cons, take_getD_pair (by omega) (by omega), ← List.take_succ_cons, ← hsucc] at himage
    rw [himage, List.take_append_drop]

/-- Settles O4, word by word. -/
theorem sampleWordsDecode : Obligations.SampleWordsDecode := by
  refine ⟨?_, ?_, ?_, ?_, ?_, ?_, ?_, ?_, ?_, ?_, ?_, ?_, ?_, ?_⟩
  all_goals rfl

/-! ### Bytes placed from outside -/

/-- Memory answers at the address, with this byte. -/
def AnswersWith (a : Addr) (v : Byte) (s : State) : Prop := isMemory a s = true ∧ s.byteAt a = v

/-- Where memory answers, a read gives the stored byte (R52). -/
theorem AnswersWith.read_eq {a : Addr} {v : Byte} {s : State} (h : AnswersWith a v s) (d : Draw) : s.read d a = v := by
  obtain ⟨hmemory, hbyte⟩ := h
  unfold isMemory at hmemory
  rw [← hbyte]
  split at hmemory
  · next hram => exact State.read_of_stored d (.inl hram)
  · next hrom => exact State.read_of_stored d (.inr hrom)
  · cases hmemory
  · cases hmemory

/-- A region of one address that is put first decides there, and nowhere else (D12). -/
theorem kindAt_cons_single (p : Platform) (a b : Addr) :
    kindAt { p with memMap := { lo := a.toNat, hi := a.toNat, kind := .ram } :: p.memMap } b =
      if b = a then .ram else kindAt p b := by
  have hholds : (decide (a.toNat ≤ b.toNat) && decide (b.toNat ≤ a.toNat)) = decide (b = a) := by
    rw [← Bool.decide_and, decide_eq_decide, ← BitVec.toNat_inj]
    omega
  by_cases hb : b = a
  · simp only [kindAt, List.find?_cons, hholds, decide_eq_true hb, if_pos hb]
  · simp only [kindAt, List.find?_cons, hholds, decide_eq_false hb, if_neg hb]

/-- What placing a byte does to the answer of an address: its own becomes memory, the others stay (log 3). -/
theorem isMemory_placeByte (a b : Addr) (v : Byte) (s : State) :
    isMemory b (placeByte a v s) = (decide (b = a) || isMemory b s) := by
  unfold placeByte
  by_cases hmemory : isMemory a s = true
  · rw [if_pos hmemory]
    by_cases hb : b = a
    · rw [hb, hmemory, Bool.or_true]; exact hmemory
    · rw [decide_eq_false hb, Bool.false_or]; rfl
  · rw [if_neg hmemory]
    simp only [isMemory, kindAt_cons_single]
    by_cases hb : b = a <;> simp [hb]

/-- What placing a byte stores. -/
theorem placeByte_mem (a : Addr) (v : Byte) (s : State) : (placeByte a v s).mem = Memory.put s.mem a.toNat v := by
  unfold placeByte
  split <;> rfl

theorem answersWith_placeByte (a : Addr) (v : Byte) {s : State} (hwf : Memory.wf s.mem = true) :
    AnswersWith a v (placeByte a v s) := by
  refine ⟨by simp [isMemory_placeByte], ?_⟩
  rw [State.byteAt, placeByte_mem]
  exact Memory.get_put_same v hwf

/-- A byte placed elsewhere leaves an answer as it was. -/
theorem AnswersWith.placeByte {a b : Addr} {v w : Byte} {s : State} (h : AnswersWith a v s) (hab : a ≠ b) :
    AnswersWith a v (placeByte b w s) := by
  obtain ⟨hmemory, hbyte⟩ := h
  refine ⟨by simp [isMemory_placeByte, hmemory], ?_⟩
  rw [State.byteAt, placeByte_mem, Memory.get_put_other w fun heq => hab (BitVec.eq_of_toNat_eq heq)]
  exact hbyte

/-- Placing bytes changes the memory map and memory only (log 3). -/
theorem placeBytes_frame (a : Addr) (vs : List Byte) (s : State) :
    ∃ p m, placeBytes a vs s = { s with plat := p, mem := m } := by
  induction vs generalizing a s with
  | nil => exact ⟨s.plat, s.mem, rfl⟩
  | cons v vs ih =>
    obtain ⟨p, m, hrest⟩ := ih (a + 1) (placeByte a v s)
    refine ⟨p, m, hrest.trans ?_⟩
    unfold placeByte
    split <;> rfl

/-- Three bytes placed at PC are the ones that the fetch reads (R12, R26). -/
theorem fetchedBytes_placeBytes (n : Nat) {vs : List Byte} (hthree : vs.length = 3) {s : State}
    (hwf : Memory.wf s.mem = true) : fetchedBytes n (placeBytes s.pc vs s) = vs.take n := by
  obtain ⟨p, m, hframe⟩ := placeBytes_frame s.pc vs s
  have hpc : (placeBytes s.pc vs s).pc = s.pc := by rw [hframe]
  have hnext : s.pc + 1 + 1 = s.pc + 2 := add_assoc _ _ _
  rw [fetchedBytes, hpc, ← hnext]
  match vs, hthree with
  | [v0, v1, v2], _ =>
    have hwf1 := placeByte_mem_wf s.pc v0 hwf
    have hwf2 := placeByte_mem_wf (s.pc + 1) v1 hwf1
    have h0 := ((answersWith_placeByte s.pc v0 hwf).placeByte (b := s.pc + 1) (w := v1) (by bv_omega)).placeByte
      (b := s.pc + 1 + 1) (w := v2) (by bv_omega)
    have h1 := (answersWith_placeByte (s.pc + 1) v1 hwf1).placeByte (b := s.pc + 1 + 1) (w := v2) (by bv_omega)
    have h2 := answersWith_placeByte (s.pc + 1 + 1) v2 hwf2
    simp only [placeBytes, h0.read_eq, h1.read_eq, h2.read_eq]

/-- The fetch reads the bytes of the word that `withFetchWord` places (log 3). -/
theorem fetchedBytes_withFetchWord (n nbits w : Nat) {s : State} (hwf : Memory.wf s.mem = true) :
    fetchedBytes n (s.withFetchWord nbits w) = (tableBytes nbits w).take n :=
  fetchedBytes_placeBytes n (vs := tableBytes nbits w) rfl
    (s := { s with halted := false, nmiPending := false, irqLine := false, resetLine := false, env := [] }) hwf

/-- Nothing comes before the instruction that `withFetchWord` places, and no schedule is left (R270, log 3). -/
theorem withFetchWord_boundary (nbits w : Nat) (s : State) :
    nextEvent { s.withFetchWord nbits w with during := none } = .instruction ∧
      (s.withFetchWord nbits w).env = [] := by
  obtain ⟨p, m, hframe⟩ := placeBytes_frame s.pc (tableBytes nbits w)
    { s with halted := false, nmiPending := false, irqLine := false, resetLine := false, env := [] }
  have hplaced : s.withFetchWord nbits w = _ := hframe
  rw [hplaced]
  exact ⟨rfl, rfl⟩

/-- The low byte of a number. -/
theorem ofNat_eq_of_mod {n : Nat} {b : Byte} (h : n % 256 = b.toNat) : BitVec.ofNat 8 n = b :=
  BitVec.eq_of_toNat_eq ((BitVec.toNat_ofNat n 8).trans h)

/-- The table word of an instruction holds its image, first byte lowest. -/
theorem take_tableBytes (i : Instr) : (tableBytes (8 * i.length) i.tableWord).take i.length = encode i := by
  have hop := i.opcode.isLt
  rw [← length_encode, Instr.tableWord, encode]
  have hlen := operandBytes_length_le i.operand
  match i.operand.bytes, hlen with
  | [], _ =>
    simp only [tableBytes, List.length_cons, List.length_nil, List.take_succ_cons, List.take_zero, List.cons.injEq,
      and_true]
    exact ofNat_eq_of_mod (by omega)
  | [b1], _ =>
    have hb1 := b1.isLt
    simp only [tableBytes, List.length_cons, List.length_nil, List.take_succ_cons, List.take_zero, List.cons.injEq,
      and_true]
    exact ⟨ofNat_eq_of_mod (by omega), ofNat_eq_of_mod (by omega)⟩
  | [b1, b2], _ =>
    have hb1 := b1.isLt
    have hb2 := b2.isLt
    simp only [tableBytes, List.length_cons, List.length_nil, List.take_succ_cons, List.take_zero, List.cons.injEq,
      and_true]
    exact ⟨ofNat_eq_of_mod (by omega), ofNat_eq_of_mod (by omega), ofNat_eq_of_mod (by omega)⟩

/-- Settles O5: after `withFetchWord` nothing comes before the instruction, and the fetch reads its image. -/
theorem placedInstructionRunsNext : Obligations.PlacedInstructionRunsNext := by
  intro s i hwf
  obtain ⟨hevent, henv⟩ := withFetchWord_boundary (8 * i.length) i.tableWord s
  have hbytes := (fetchedBytes_withFetchWord i.length (8 * i.length) i.tableWord hwf).trans (take_tableBytes i)
  rw [← takeInput_of_env_nil henv] at hevent ⊢
  refine stepRunsDecodedInstruction _ i hevent ?_
  rw [takeInput_of_env_nil henv]
  exact hbytes

end Sys2Proof.Machine

/-! PROOFS. Increments and decrements (47_incdec.md): a byte plus or minus 1 modulo 256, in a register or in memory. -/

namespace Sys2Proof.Machine

theorem toNat_add_one (v : Byte) : (v + 1).toNat = (v.toNat + 1) % 256 := BitVec.toNat_add v 1

theorem toNat_sub_one (v : Byte) : (v - 1).toNat = (v.toNat + 255) % 256 := by
  rw [BitVec.toNat_sub, Nat.add_comm]
  rfl

/-- Settles O22, register by register. -/
theorem registerStepsWrapModulo256 : Obligations.RegisterStepsWrapModulo256 := by
  intro s nz
  have hnz (r : Byte) : nz r = s.p.setNZ r := (Status.setNZ_eq s.p r).symm
  simp only [hnz]
  exact ⟨isRow_of_opcode rfl rfl rfl, isRow_of_opcode rfl rfl rfl, isRow_of_opcode rfl rfl rfl,
    isRow_of_opcode rfl rfl rfl, ⟨_, toNat_add_one s.x, rfl⟩, ⟨_, toNat_add_one s.y, rfl⟩,
    ⟨_, toNat_sub_one s.x, rfl⟩, ⟨_, toNat_sub_one s.y, rfl⟩⟩

/-- The effect that INC and DEC share: the byte that `step` gives is written back, with its N and Z (R190, R193). -/
def State.stepByte (step : Byte → Byte) (v : Byte) (s : State) : Byte × State := s.resultNZ (step v)

theorem State.stepByte_eq (step : Byte → Byte) (v : Byte) (s : State) :
    s.stepByte step v = (step v, { s with p := { s.p with n := (step v).getLsbD 7, z := decide (step v = 0) } }) := by
  rw [State.stepByte, State.resultNZ, Status.setNZ_eq]

/-- A row of class write or read/modify/write is one of the opcode map by the columns of its instruction (R88, R300). -/
theorem MemRow.Correct.of_opcode {i : Instr} {op : Byte} {m : MemMode} {cycles : Timing} (hopcode : i.opcode = op)
    (hcycles : (timingTable.getD (op.toNat / 16) []).getD (op.toNat % 16) .never = cycles)
    (hoperand : i.operand = .memory m) : MemRow.Correct ⟨i, op, m, cycles⟩ :=
  isRow_of_opcode hopcode hcycles hoperand

/-- Settles O23: each row has the effect `State.stepByte` of a step by the number that stands beside it. -/
theorem memoryStepsWrapModulo256 : Obligations.MemoryStepsWrapModulo256 := by
  intro b1 b2 s row hrow
  have hstep : ∃ step : Byte → Byte, (∀ v, (step v).toNat = (v.toNat + row.2) % 256) ∧
      row.1.Performs (State.stepByte step) s := by
    revert row
    refine List.forall_iff_forall_mem.mp ?_
    dsimp only [List.Forall]
    refine ⟨⟨_, toNat_sub_one, ?_⟩, ⟨_, toNat_sub_one, ?_⟩, ⟨_, toNat_sub_one, ?_⟩, ⟨_, toNat_sub_one, ?_⟩,
      ⟨_, toNat_add_one, ?_⟩, ⟨_, toNat_add_one, ?_⟩, ⟨_, toNat_add_one, ?_⟩, ⟨_, toNat_add_one, ?_⟩⟩
    all_goals exact ⟨.of_opcode rfl rfl rfl, rfl⟩
  obtain ⟨step, hvalue, hperforms⟩ := hstep
  exact ⟨hperforms.correct, fun hopen =>
    ⟨_, exists_and_left.mpr ⟨hvalue _, hperforms.exists_next hopen (State.stepByte_eq step _ s) rfl rfl⟩⟩⟩

end Sys2Proof.Machine

/-! PROOFS. Loads, stores, the stack instructions and the transfers (48_load_stack_transfer.md), and SAX
(49_undocumented.md R242), which stores as STA does. -/

namespace Sys2Proof.Machine

/-! ### Loads and stores -/

/-- Settles O33: each row writes the register that the state beside it names, and N and Z. -/
theorem loadsSetNAndZ : Obligations.LoadsSetNAndZ := by
  intro b1 b2 s row hrow
  have hperforms : row.1.Performs (fun m _ => { row.2 with p := s.p.setNZ m }) s := by
    revert row
    refine List.forall_iff_forall_mem.mp ?_
    dsimp only [List.Forall]
    and_intros
    all_goals apply ReadRow.Performs.of_opcode <;> rfl
  refine ⟨hperforms.correct, fun hopen => ?_⟩
  rw [hperforms.exec_eq_next hopen, Status.setNZ_eq]

/-- An instruction of class write that D16 does not refuse stores its byte at the effective address and nowhere else,
and changes nothing else but PC (R114). -/
theorem writeClass_exists_next {m : MemMode} {v : Byte} {s : State} (hopen : discardedReadBlocked .write m s = false) :
    ∃ t, writeClass m v s = .next t ∧ StoresExactly s t [(effAddr m s, v)] ∧
      t = { s with mem := t.mem }.retire m.length :=
  ⟨(s.write (effAddr m s) v).retire m.length, writeClass_eq_next.mpr ⟨hopen, rfl⟩, storesExactly_write _ v s,
    congrArg (State.retire m.length) (State.write_eq _ v s)⟩

/-- The row is one of the opcode map, and in `s` its instruction is of class write with the byte `v` (R88, R114). -/
structure MemRow.Writes (row : MemRow) (v : Byte) (s : State) : Prop where
  correct : row.Correct
  exec_eq : exec row.instr s = writeClass row.mode v s

/-- Settles O34: each row is of class write with the byte that stands beside it. -/
theorem storesWriteOneByte : Obligations.StoresWriteOneByte := by
  intro b1 b2 s row hrow
  have hwrites : row.1.Writes row.2 s := by
    revert row
    refine List.forall_iff_forall_mem.mp ?_
    dsimp only [List.Forall]
    and_intros
    all_goals exact ⟨.of_opcode rfl rfl rfl, rfl⟩
  refine ⟨hwrites.correct, fun hopen => ?_⟩
  rw [hwrites.exec_eq]
  exact writeClass_exists_next hopen

/-! ### The stack instructions -/

/-- The image of P as a number: N V at bits 7 6, a one at bit 5, `b` at bit 4, D I Z C below (R33). -/
theorem pImage_eq_ofNat (b : Bool) (p : Status) :
    pImage b p = BitVec.ofNat 8 (128 * bitVal p.n + 64 * bitVal p.v + 32 + 16 * bitVal b + 8 * bitVal p.d +
      4 * bitVal p.i + 2 * bitVal p.z + bitVal p.c) := by
  have himage : ∀ n v b d i z c : Bool, pImage b ⟨n, v, d, i, z, c⟩ = BitVec.ofNat 8 (128 * bitVal n +
      64 * bitVal v + 32 + 16 * bitVal b + 8 * bitVal d + 4 * bitVal i + 2 * bitVal z + bitVal c) := by decide
  exact himage p.n p.v b p.d p.i p.z p.c

/-- An instruction that pushes `v` stores it at the stack address and nowhere else, and lowers S (R27). -/
theorem impliedClass_push (v : Byte) (s : State) :
    ∃ t, impliedClass (State.push v) s = .next t ∧ StoresExactly s t [(stackAddr s.sp, v)] ∧
      t = { s with mem := t.mem, sp := s.sp - 1 }.retire 1 :=
  ⟨(s.push v).retire 1, rfl, storesExactly_push v s, congrArg (State.retire 1) (State.push_eq v s)⟩

/-- Settles O35, from the push that PHA and PHP share. -/
theorem pushesPhaAndPhp : Obligations.PushesPhaAndPhp := by
  refine fun s => ⟨isRow_of_opcode rfl rfl rfl, isRow_of_opcode rfl rfl rfl, impliedClass_push s.a s, ?php⟩
  case php =>
    have himage := pImage_eq_ofNat true s.p
    rw [add_assoc _ 32] at himage
    exact himage ▸ impliedClass_push (pImage true s.p) s

/-- Settles O36, from the byte that PLA and PLP pull. -/
theorem pullsPlaAndPlp : Obligations.PullsPlaAndPlp := by
  intro s
  refine ⟨isRow_of_opcode rfl rfl rfl, isRow_of_opcode rfl rfl rfl, ?pla, rfl⟩
  case pla =>
    rw [← Status.setNZ_eq]
    rfl

/-! ### Transfers -/

/-- Settles O37: each transfer but TXS sets N and Z from the byte that it moves. -/
theorem transfersMoveOneRegister : Obligations.TransfersMoveOneRegister := by
  intro s
  refine ⟨fun row hrow => ?_, isRow_of_opcode rfl rfl rfl, rfl⟩
  rw [← Status.setNZ_eq]
  revert row
  refine List.forall_iff_forall_mem.mp ?_
  dsimp only [List.Forall]
  refine ⟨⟨?tax, rfl⟩, ⟨?tay, rfl⟩, ⟨?tsx, rfl⟩, ⟨?txa, rfl⟩, ⟨?tya, rfl⟩⟩
  all_goals exact isRow_of_opcode rfl rfl rfl

end Sys2Proof.Machine

/-! PROOFS. The undocumented instructions (49_undocumented.md): the read/modify/write combinations, the loads and stores
of several registers, the immediates, and the instructions that write nothing or halt. -/

namespace Sys2Proof.Machine

/-! ### Shift, then combine: SLO, RLA, SRE -/

/-- SLO in the statements' terms (R249). -/
theorem State.slo_eq (v : Byte) (s : State) :
    let r := (aslByte v).1
    let w := s.a ||| r
    s.slo v = (r, { s with a := w, p := { s.p with n := w.getLsbD 7, z := decide (w = 0), c := v.getLsbD 7 } }) := by
  intro r w
  rw [State.slo, State.oraA, State.setA_eq]
  rfl

/-- RLA in the statements' terms (R240). -/
theorem State.rla_eq (v : Byte) (s : State) :
    let r := (rolByte v s.p.c).1
    let w := s.a &&& r
    s.rla v = (r, { s with a := w, p := { s.p with n := w.getLsbD 7, z := decide (w = 0), c := v.getLsbD 7 } }) := by
  intro r w
  rw [State.rla, State.andA, State.setA_eq]
  rfl

/-- SRE in the statements' terms (R250). -/
theorem State.sre_eq (v : Byte) (s : State) :
    let r := (lsrByte v).1
    let w := s.a ^^^ r
    s.sre v = (r, { s with a := w, p := { s.p with n := w.getLsbD 7, z := decide (w = 0), c := v.getLsbD 0 } }) := by
  intro r w
  rw [State.sre, State.eorA, State.setA_eq]
  rfl

/-- Settles O38, from the effects of SLO, RLA and SRE in their rows. -/
theorem sloRlaSreShiftThenCombine : Obligations.SloRlaSreShiftThenCombine := by
  intro b1 b2 s
  refine ⟨fun row hrow => ?slo, fun row hrow => ?rla, fun row hrow => ?sre⟩
  case slo =>
    have hperforms : row.Performs State.slo s := .of_mem hrow (by dsimp only [List.map]; rfl)
    refine ⟨hperforms.correct, fun hopen => ?_⟩
    obtain ⟨t, hnext⟩ := hperforms.exists_next hopen (State.slo_eq _ s) rfl rfl
    exact ⟨_, _, t, aslByte_toNat _, rfl, hnext⟩
  case rla =>
    have hperforms : row.Performs State.rla s := .of_mem hrow (by dsimp only [List.map]; rfl)
    refine ⟨hperforms.correct, fun hopen => ?_⟩
    obtain ⟨t, hnext⟩ := hperforms.exists_next hopen (State.rla_eq _ s) rfl rfl
    exact ⟨_, _, t, rolByte_toNat _ _, rfl, hnext⟩
  case sre =>
    have hperforms : row.Performs State.sre s := .of_mem hrow (by dsimp only [List.map]; rfl)
    refine ⟨hperforms.correct, fun hopen => ?_⟩
    obtain ⟨t, hnext⟩ := hperforms.exists_next hopen (State.sre_eq _ s) rfl rfl
    exact ⟨_, _, t, lsrByte_toNat _, rfl, hnext⟩

/-! ### Step or rotate, then add, compare or subtract: RRA, DCP, ISC -/

/-- Of the state `t` that such an instruction ends in, A and P are those of its effect's state `u`. -/
theorem retire_with_mem_a_p {t u : State} {len : Nat} (h : t = { u with mem := t.mem }.retire len) :
    t.a = u.a ∧ t.p = u.p :=
  ⟨(congrArg State.a h :), (congrArg State.p h :)⟩

/-- Settles O39: the effect of RRA is that of ADC, with the bit rotated out as its carry, on the byte stored. -/
theorem rraRotatesThenAdds : Obligations.RraRotatesThenAdds := by
  intro b1 b2 s row hrow
  have hperforms : row.Performs State.rra s := .of_mem hrow (by dsimp only [List.map]; rfl)
  refine ⟨hperforms.correct, fun hopen => ?_⟩
  intro v c1
  obtain ⟨t, hexec, hstores, hframe⟩ :=
    hperforms.exists_next hopen (u := (s.setC c1).adc (rorByte v s.p.c).1) rfl rfl rfl
  obtain ⟨ha, hp⟩ := retire_with_mem_a_p hframe
  refine ⟨(rorByte v s.p.c).1, t, rorByte_toNat v s.p.c, hexec, hstores, fun hd => ?binary,
    fun hd hbcd hbcd' => ?decimal, ?frame⟩
  case binary =>
    rw [ha, hp, State.adc_of_binary (s := s.setC c1) _ hd]
    exact ⟨addBinary_value_toNat _ _ _, rfl⟩
  case decimal =>
    rw [ha, hp, State.adc_of_decimal (s := s.setC c1) _ hd]
    obtain ⟨hvalid, hvalue, hcarry⟩ := decAdc_of_valid c1 hbcd hbcd'
    exact ⟨hvalid, Int.ofNat.inj hvalue, hcarry⟩
  case frame =>
    rw [ha, hp]
    exact hframe

/-- The binary difference as a natural number, where the borrow is taken from 256 (R120). -/
theorem subBinary_value_toNat_eq_mod (a m : Byte) (c : Bool) :
    (subBinary a m c).value.toNat = (256 + a.toNat - m.toNat - (1 - bitVal c)) % 256 := by
  have hvalue := subBinary_value_toNat a m c
  have hm := m.isLt
  have hc := bitVal_le_one c
  omega

/-- DCP in the statements' terms (R234). -/
theorem State.dcp_eq (v : Byte) (s : State) :
    s.dcp v = (v - 1, { s with p := { s.p with
      n := decide (128 ≤ (256 + s.a.toNat - (v - 1).toNat) % 256), z := decide (s.a = v - 1),
      c := decide ((v - 1).toNat ≤ s.a.toNat) } }) := by
  rw [State.dcp, State.cmp, Status.compare_eq]

/-- Settles O40, from the effects of DCP and ISC; that of ISC is SBC's on the byte stored. -/
theorem dcpAndIscStepThenSubtract : Obligations.DcpAndIscStepThenSubtract := by
  intro b1 b2 s
  refine ⟨fun row hrow => ?dcp, fun row hrow => ?isc⟩
  case dcp =>
    have hperforms : row.Performs State.dcp s := .of_mem hrow (by dsimp only [List.map]; rfl)
    exact ⟨hperforms.correct, fun hopen =>
      ⟨_, exists_and_left.mpr ⟨toNat_sub_one _, hperforms.exists_next hopen (State.dcp_eq _ s) rfl rfl⟩⟩⟩
  case isc =>
    have hperforms : row.Performs State.isc s := .of_mem hrow (by dsimp only [List.map]; rfl)
    refine ⟨hperforms.correct, fun hopen => ?_⟩
    intro v
    obtain ⟨t, hexec, hstores, hframe⟩ := hperforms.exists_next hopen (u := s.sbc (v + 1)) rfl rfl rfl
    obtain ⟨ha, hp⟩ := retire_with_mem_a_p hframe
    refine ⟨v + 1, t, toNat_add_one v, hexec, hstores, fun hd => ?binary, fun hd hbcd hbcd' => ?decimal, ?frame⟩
    case binary =>
      rw [ha, hp, State.sbc_of_binary _ hd]
      exact ⟨subBinary_value_toNat_eq_mod _ _ _, rfl⟩
    case decimal =>
      rw [ha, hp, State.sbc_of_decimal _ hd]
      exact decSbc_of_valid s.p.c hbcd hbcd'
    case frame =>
      rw [ha, hp]
      exact hframe

/-! ### Loads and stores of several registers -/

theorem byUnstableUse_of_rule {u : UnstableUse} {byRule byDraw : Result} (h : u = .rule) :
    byUnstableUse u byRule byDraw = byRule := by
  rw [h, byUnstableUse]

/-- A row of class read is one of the opcode map by the columns of its instruction (R88, R300). -/
theorem ReadRow.Correct.of_opcode {i : Instr} {op : Byte} {src : Source} {cycles : Timing} (hopcode : i.opcode = op)
    (hcycles : (timingTable.getD (op.toNat / 16) []).getD (op.toNat % 16) .never = cycles)
    (hoperand : i.operand = sourceOperand src) : ReadRow.Correct ⟨i, op, src, cycles⟩ :=
  isRow_of_opcode hopcode hcycles hoperand

/-- Settles O41: each row of LAX has one effect where `UnstableOps` says rule, and LAS has its own. -/
theorem laxAndLasLoadSeveralRegisters : Obligations.LaxAndLasLoadSeveralRegisters := by
  intro b1 b2 s
  refine ⟨fun row hrow => ?lax, fun row hrow => ?las⟩
  case lax =>
    have hlax : row.Correct ∧ exec row.instr s = byUnstableUse (unstableUse row.instr s)
        (readClass row.source State.lax s) (readClass row.source State.laxDrawn s) := by
      revert row
      refine List.forall_iff_forall_mem.mp ?_
      dsimp only [List.Forall]
      refine ⟨⟨?indX, rfl⟩, ⟨?zp, rfl⟩, ⟨?imm, rfl⟩, ⟨?abs, rfl⟩, ⟨?indY, rfl⟩, ⟨?zpY, rfl⟩, ⟨?absY, rfl⟩⟩
      all_goals exact .of_opcode rfl rfl rfl
    obtain ⟨hcorrect, hexec⟩ := hlax
    refine ⟨hcorrect, fun hopen hrule => ?_⟩
    rw [hexec, byUnstableUse_of_rule hrule, readClass_eq_next.mpr ⟨hopen, rfl⟩, State.lax, Status.setNZ_eq]
  case las =>
    have hperforms : row.Performs State.las s := by
      obtain rfl := List.mem_singleton.mp hrow
      exact ⟨.of_opcode rfl rfl rfl, rfl⟩
    refine ⟨hperforms.correct, fun hopen => ?_⟩
    rw [hperforms.exec_eq_next hopen, State.las, Status.setNZ_eq]

/-- In an absolute mode the third operand of SHA, SHX, SHY and SHS comes from the instruction's third byte (R245). -/
theorem highPlusOne_of_join {m : MemMode} {h l : Byte} {s : State} (hbase : baseAddr m s = join h l) :
    highPlusOne m s = h + 1 := by
  rw [highPlusOne, hbase, hi_join]

/-- S has no part in an effective address, nor in what D16 refuses (R100). -/
theorem effAddr_with_sp (m : MemMode) (sp : Byte) (s : State) : effAddr m { s with sp := sp } = effAddr m s := by
  cases m <;> rfl

theorem discardedReadBlocked_with_sp (c : AccessClass) (m : MemMode) (sp : Byte) (s : State) :
    discardedReadBlocked c m { s with sp := sp } = discardedReadBlocked c m s := by
  cases m <;> rfl

/-- Settles O42: each row stores the byte that stands beside it, after S has taken the value that does. -/
theorem storesWithTheHighAddressByte : Obligations.StoresWithTheHighAddressByte := by
  intro b1 b2 s row hrow
  have hstores : row.1.Correct ∧ exec row.1.instr s =
      unstableStore (unstableUse row.1.instr s) row.1.mode row.2.1 { s with sp := row.2.2 } := by
    have hindY : highPlusOne (.indY b1) s = s.read .pointerHigh (zext (b1 + 1)) + 1 := highPlusOne_of_join rfl
    have habsX : highPlusOne (.absX b1 b2) s = b2 + 1 := highPlusOne_of_join rfl
    have habsY : highPlusOne (.absY b1 b2) s = b2 + 1 := highPlusOne_of_join rfl
    revert row
    refine List.forall_iff_forall_mem.mp ?_
    rw [← hindY]
    dsimp only [List.Forall]
    refine ⟨⟨?_, rfl⟩, ⟨?_, ?shs⟩, ⟨?_, ?shy⟩, ⟨?_, ?shx⟩, ⟨?_, ?sha⟩⟩
    case shy => rw [← habsX]; rfl
    case shs | shx | sha => rw [← habsY]; rfl
    all_goals exact .of_opcode rfl rfl rfl
  obtain ⟨hcorrect, hexec⟩ := hstores
  refine ⟨hcorrect, fun hopen hrule => ?_⟩
  rw [← discardedReadBlocked_with_sp _ _ row.2.2] at hopen
  rw [hexec, unstableStore, byUnstableUse_of_rule hrule, ← effAddr_with_sp _ row.2.2]
  exact writeClass_exists_next hopen

/-! ### Immediates -/

/-- The instruction is the row of the opcode map with these columns, and `r` is what it answers in `s` (R88). -/
structure RowAnswers (i : Instr) (op : Byte) (o : Operand) (cycles : Timing) (s : State) (r : Result) : Prop where
  row : IsRow i op o cycles
  exec_eq : exec i s = r

theorem RowAnswers.of_opcode {i : Instr} {op : Byte} {o : Operand} {cycles : Timing} {s : State} {r : Result}
    (hopcode : i.opcode = op)
    (hcycles : (timingTable.getD (op.toNat / 16) []).getD (op.toNat % 16) .never = cycles) (hoperand : i.operand = o)
    (hexec : exec i s = r) : RowAnswers i op o cycles s r :=
  ⟨isRow_of_opcode hopcode hcycles hoperand, hexec⟩

/-- ANC in the statements' terms (R231). -/
theorem State.anc_eq (m : Byte) (s : State) :
    let r := s.a &&& m
    s.anc m = { s with a := r, p := { s.p with n := r.getLsbD 7, z := decide (r = 0), c := r.getLsbD 7 } } := by
  intro r
  rw [State.anc, Status.setNZ_eq, BitVec.msb_eq_getLsbD_last]

/-- ASR in the statements' terms (R233). -/
theorem State.asr_eq (m : Byte) (s : State) :
    let r := (lsrByte (s.a &&& m)).1
    s.asr m = { s with a := r, p := { s.p with n := false, z := decide (r = 0), c := (s.a &&& m).getLsbD 0 } } := by
  intro r
  rw [State.asr, beq_eq_decide]
  rfl

/-- SBX in the statements' terms: the flags are those of the difference that X takes (R244). -/
theorem State.sbx_eq (m : Byte) (s : State) :
    let r := (s.a &&& s.x) - m
    s.sbx m = { s with x := r, p := { s.p with
      n := r.getLsbD 7, z := decide (r = 0), c := decide (m.toNat ≤ (s.a &&& s.x).toNat) } } := by
  intro r
  rw [State.sbx, Status.compare, Status.setNZ_eq]

/-- A difference of bytes as a number (R120). -/
theorem toNat_sub (v m : Byte) : (v - m).toNat = (256 + v.toNat - m.toNat) % 256 := by
  have hm := m.isLt
  rw [BitVec.toNat_sub]
  omega

/-- Settles O43, from the effects of ANC, ASR and SBX. -/
theorem ancAsrSbxImmediates : Obligations.AncAsrSbxImmediates := by
  intro b1 s
  refine ⟨fun row hrow => ?anc, ⟨?asrRow, _, lsrByte_toNat _, ?asr⟩, ?sbxRow, _, toNat_sub _ _, ?sbx⟩
  case anc =>
    have hanswers : RowAnswers row.1 row.2 (.immediate b1) (.fixed 2) s (.next ((s.anc b1).retire 2)) := by
      revert row
      refine List.forall_iff_forall_mem.mp ?_
      dsimp only [List.Forall]
      and_intros
      all_goals apply RowAnswers.of_opcode <;> rfl
    rw [← State.anc_eq]
    exact ⟨hanswers.row, hanswers.exec_eq⟩
  case asr => rw [← State.asr_eq]; rfl
  case asrRow | sbxRow => apply isRow_of_opcode <;> rfl
  case sbx => rw [← State.sbx_eq]; rfl

/-- ARR with D = 0 in the statements' terms (R232). -/
theorem State.arr_of_binary {s : State} (m : Byte) (hd : s.p.d = false) :
    let q := (rorByte (s.a &&& m) s.p.c).1
    s.arr m = { s with a := q, p := { s.p with
      n := q.getLsbD 7, z := decide (q = 0), c := q.getLsbD 6, v := decide (q.getLsbD 6 ≠ q.getLsbD 5) } } := by
  simp only [State.arr, Status.setNZ_eq, hd, Bool.false_eq_true, if_false, bne, beq_eq_decide, decide_not, ne_eq]

/-- Settles O44, by D; with D = 0 the parameter `UnstableOps` is not read. -/
theorem arrRotatesTheAnd : Obligations.ArrRotatesTheAnd := by
  intro b1 s
  refine ⟨?row, _, rorByte_toNat _ _, fun hd => ?binary, fun hd hrule => ?decimal⟩
  case row => apply isRow_of_opcode <;> rfl
  case binary =>
    rw [← State.arr_of_binary b1 hd]
    exact byUnstableUse_of_rule (by rw [if_neg (by simp [hd])])
  case decimal =>
    rw [← State.arr_of_decimal b1 hd]
    exact byUnstableUse_of_rule (by rw [if_pos hd, hrule])

/-- Settles O45: under rule and under draw, XAA writes a free byte to A. -/
theorem xaaDrawsItsResult : Obligations.XaaDrawsItsResult := by
  intro b1 s
  refine ⟨?row, fun hrun => ⟨Config.freeByte s.draws .xaa, ?xaa⟩⟩
  case row => apply isRow_of_opcode <;> rfl
  rw [← State.setA_eq]
  refine byUnstableUse_eq_next.mpr ?_
  cases huse : s.plat.unstable.xaa with
  | rule => exact .inl ⟨rfl, rfl⟩
  | draw => exact .inr ⟨rfl, rfl⟩
  | refuse => exact absurd huse hrun

/-! ### No-operations and the halt -/

/-- What an undocumented no-operation does, by its operand: a memory operand is accessed, and D16 may refuse it
(R239, R58). -/
def nopMeaning (o : Operand) (s : State) : Result :=
  match o with
  | .memory m => readClass (.memory m) (fun _ t => t) s
  | _ => .next (s.retire o.length)

theorem nopMeaning_eq_next {o : Operand} {s : State}
    (hopen : ∀ m, o = .memory m → discardedReadBlocked .read m s = false) :
    nopMeaning o s = .next (s.retire o.length) := by
  cases o with
  | memory m => exact (readClass_eq_next (src := .memory m) (f := fun _ t => t)).mpr ⟨hopen m rfl, rfl⟩
  | implied | accumulator | immediate _ | relative _ | indirect _ _ => rfl

/-- Settles O46: each row has the meaning `nopMeaning` of its operand. -/
theorem undocumentedNopsOnlyAdvance : Obligations.UndocumentedNopsOnlyAdvance := by
  intro b1 b2 s row hrow
  have hanswers : RowAnswers row.1 row.2.1 row.2.2.1 row.2.2.2 s (nopMeaning row.2.2.1 s) := by
    revert row
    refine List.forall_iff_forall_mem.mp ?_
    dsimp only [List.Forall]
    and_intros
    all_goals apply RowAnswers.of_opcode <;> rfl
  exact ⟨hanswers.row, fun hopen => hanswers.exec_eq.trans (nopMeaning_eq_next hopen)⟩

/-- A halted CPU whose reset line is not asserted stays as it is (R278). -/
theorem cpuStep_of_halted {s : State} (hhalted : s.halted = true) (hreset : s.resetLine = false) :
    cpuStep s = .next s := by
  have hevent : nextEvent s = .halted := by simp [nextEvent, hhalted, hreset]
  simp only [cpuStep, hevent]

/-- Settles O47, row by row; the step of the halted CPU is the environment's input only. -/
theorem jamHaltsTheCpu : Obligations.JamHaltsTheCpu := by
  intro s
  refine ⟨?rows, cpuStep_of_halted⟩
  case rows =>
    refine List.forall_iff_forall_mem.mp ?_
    dsimp only [List.Forall]
    repeat' refine And.intro (And.intro (isRow_of_opcode rfl rfl rfl) ⟨_, rfl⟩) ?_
    exact ⟨isRow_of_opcode rfl rfl rfl, _, rfl⟩

end Sys2Proof.Machine

/-! PROOFS. Exceptions and reset (60_exceptions.md, 70_reset_and_hazards.md): the choice at a boundary, what taking an
exception saves and RTI restores, a BRK with which an interrupt collides, the reset sequence, and halted runs. -/

namespace Sys2Proof.Machine

/-! ### The choice at a boundary -/

theorem cpuStep_of_reset {s : State} (h : s.resetLine = true) : cpuStep s = .next s.resetSequence := by
  have hevent : nextEvent s = .reset := by simp [nextEvent, h]
  simp only [cpuStep, hevent]

theorem cpuStep_of_nmi {s : State} (hreset : s.resetLine = false) (hrunning : s.halted = false)
    (hnmi : s.nmiPending = true) : cpuStep s = .next s.nmiEntry := by
  have hevent : nextEvent s = .nmi := by simp [nextEvent, hreset, hrunning, hnmi]
  simp only [cpuStep, hevent]

section
variable {s : State} (hreset : s.resetLine = false) (hrunning : s.halted = false) (hnmi : s.nmiPending = false)
include hreset hrunning hnmi

/-- Where neither RESET nor NMI decides a running CPU's boundary, the IRQ test does (R269, R270). -/
theorem nextEvent_of_irqTest {taken : Bool} (htest : (s.irqLine && irqEnabled s) = taken) :
    nextEvent s = if taken then .irq else .instruction := by
  simp [nextEvent, hreset, hrunning, hnmi, ← htest]

theorem cpuStep_of_irqTaken (htest : (s.irqLine && irqEnabled s) = true) : cpuStep s = .next s.irqEntry := by
  simp only [cpuStep, nextEvent_of_irqTest hreset hrunning hnmi htest, if_true]

theorem cpuStep_of_irqMasked (htest : (s.irqLine && irqEnabled s) = false) : cpuStep s = exec (fetch s) s :=
  cpuStep_of_instruction (nextEvent_of_irqTest hreset hrunning hnmi htest)

end

/-- Where I and `iPrev` agree, they decide whether an IRQ is enabled (R270). -/
theorem irqEnabled_of_eq {s : State} {i : Bool} (hi : s.p.i = i) (hprev : s.iPrev = i) : irqEnabled s = !i := by
  rw [irqEnabled, hi, hprev, if_pos rfl]

/-- Settles O7, in the order in which a boundary decides; where I and `iPrev` differ, either outcome of the IRQ test is
one of the two. -/
theorem boundaryRecognition : Obligations.BoundaryRecognition := by
  intro s u
  refine ⟨cpuStep_of_reset, fun hreset hhalted => cpuStep_of_halted hhalted hreset, cpuStep_of_nmi,
    fun hreset hrunning hnmi => ⟨fun hline hi hprev => ?enabled, fun hline hi hprev => ?masked,
      fun _ _ => ?either, fun hline => ?noLine⟩⟩
  case enabled => exact cpuStep_of_irqTaken hreset hrunning hnmi (by rw [hline, irqEnabled_of_eq hi hprev]; rfl)
  case masked => exact cpuStep_of_irqMasked hreset hrunning hnmi (by rw [hline, irqEnabled_of_eq hi hprev]; rfl)
  case either =>
    cases htest : u.irqLine && irqEnabled u with
    | true => exact .inl (cpuStep_of_irqTaken hreset hrunning hnmi htest)
    | false => exact .inr (cpuStep_of_irqMasked hreset hrunning hnmi htest)
  case noLine => exact cpuStep_of_irqMasked hreset hrunning hnmi (by rw [hline, Bool.false_and])

/-! ### Taking an exception -/

/-- Of the state after them, `StoresExactly` sees only memory. -/
theorem StoresExactly.of_mem_eq_after {s t u : State} {cells : List (Addr × Byte)} (h : StoresExactly s u cells)
    (hmem : t.mem = u.mem) : StoresExactly s t cells := by
  have hbyteAt (a : Addr) : t.byteAt a = u.byteAt a := congrArg (Memory.get · a.toNat) hmem
  simpa only [StoresExactly, hbyteAt] using h

/-- Three successive pushes store at three addresses of the stack page (R27). -/
theorem storesExactly_three_pushes (v w x : Byte) (s : State) :
    StoresExactly s (((s.push v).push w).push x)
      [(stackAddr s.sp, v), (stackAddr (s.sp - 1), w), (stackAddr (s.sp - 2), x)] := by
  have hsp : ((s.push v).push w).sp = s.sp - 2 := by rw [State.push_sp, State.push_sp]; bv_omega
  have hthird := storesExactly_push x ((s.push v).push w)
  rw [hsp] at hthird
  have hfirst : StoresExactly s ((s.push v).push w) [(stackAddr s.sp, v), (stackAddr (s.sp - 1), w)] := by
    refine (storesExactly_push v s).trans (storesExactly_push w (s.push v)) (s.push_plat v) (State.push_mem_wf v) ?_
    simp only [List.forall_mem_singleton]
    exact stackAddr_injective.ne (show s.sp ≠ s.sp - 1 by bv_omega)
  refine hfirst.trans hthird (by simp) (fun hwf => State.push_mem_wf w (State.push_mem_wf v hwf)) ?_
  refine List.forall_mem_cons.mpr
    ⟨List.forall_mem_singleton.mpr ?_, List.forall_mem_singleton.mpr (List.forall_mem_singleton.mpr ?_)⟩
  · exact stackAddr_injective.ne (show s.sp ≠ s.sp - 2 by bv_omega)
  · exact stackAddr_injective.ne (show s.sp - 1 ≠ s.sp - 2 by bv_omega)

/-- Taking an exception stores the return address and the image of P as it was (R262). -/
theorem storesExactly_interruptSequence (ret vector : Addr) (b : Bool) (s : State) :
    StoresExactly s (s.interruptSequence ret vector b)
      [(stackAddr s.sp, hi ret), (stackAddr (s.sp - 1), lo ret), (stackAddr (s.sp - 2), pImage b s.p)] :=
  (storesExactly_three_pushes (hi ret) (lo ret) (pImage b s.p) s).of_mem_eq_after
    (interruptSequence_mem ret vector b s)

/-- An address outside page one is no stack address (R27). -/
theorem ne_stackAddr_of_hi {a : Addr} (h : hi a ≠ 0x01) (b : Byte) : a ≠ stackAddr b := by
  rintro rfl
  exact h (hi_join 0x01 b)

/-- Stores in the stack page leave every read outside it as it was (R27, R52). -/
theorem StoresExactly.read_of_hi {s t : State} {cells : List (Addr × Byte)} (h : StoresExactly s t cells)
    (hcells : ∀ c ∈ cells, ∃ b, c.1 = stackAddr b) (hplat : t.plat = s.plat) (hdraws : t.draws = s.draws) (d : Draw)
    {a : Addr} (ha : hi a ≠ 0x01) : t.read d a = s.read d a := by
  obtain ⟨hother, -, -⟩ := h
  refine State.read_congr hplat (hother a fun c hc => ?_) hdraws
  obtain ⟨b, hb⟩ := hcells c hc
  exact hb ▸ ne_stackAddr_of_hi ha b

/-- The vectors of IRQ and NMI stand outside the stack page (R51, R263). -/
theorem hi_vector_ne {vector : Addr} (h : vector = 0xFFFA ∨ vector = 0xFFFE) :
    hi vector ≠ 0x01 ∧ hi (vector + 1) ≠ 0x01 := by
  obtain rfl | rfl := h <;> decide

/-- What taking an exception changes besides memory; the pushes do not reach the vector (R262). -/
theorem interruptSequence_eq {vector : Addr} (hvector : vector = 0xFFFA ∨ vector = 0xFFFE) (ret : Addr) (b : Bool)
    (s : State) :
    s.interruptSequence ret vector b = { s with
      mem := (s.interruptSequence ret vector b).mem, sp := s.sp - 3, p := { s.p with i := true }, iPrev := true,
      draws := s.draws + 1, pc := join (s.read .vectorHigh (vector + 1)) (s.read .vectorLow vector) } := by
  obtain ⟨hlow, hhigh⟩ := hi_vector_ne hvector
  obtain ⟨m, hpushes⟩ : ∃ m, ((s.push (hi ret)).push (lo ret)).push (pImage b s.p) =
      { s with mem := m, sp := s.sp - 3 } := ⟨_, State.foldl_push_eq [hi ret, lo ret, pImage b s.p] s⟩
  have hstores := storesExactly_three_pushes (hi ret) (lo ret) (pImage b s.p) s
  rw [hpushes] at hstores
  have hread (d : Draw) {a : Addr} (ha : hi a ≠ 0x01) :
      { s with mem := m, sp := s.sp - 3, p := { s.p with i := true } }.read d a = s.read d a :=
    (hstores.of_mem_eq_after rfl).read_of_hi (by simp) rfl rfl d ha
  simp only [State.interruptSequence, hpushes, State.readVector, hread _ hhigh, hread _ hlow]
  rfl

/-- Settles O9, from what taking an exception stores and what else it changes. -/
theorem interruptSequenceEffect : Obligations.InterruptSequenceEffect := by
  intro s ret vector b hvector
  rw [← pImage_eq_ofNat]
  exact ⟨storesExactly_interruptSequence ret vector b s, interruptSequence_eq hvector ret b s⟩

/-- RTI's flags from a pushed image of P are those that were pushed; bits 5 and 4 are ignored (R33, R34). -/
theorem statusOf_pImage (b : Bool) (p : Status) : statusOf (pImage b p) = p := by
  have himage : ∀ n v b d i z c : Bool, statusOf (pImage b ⟨n, v, d, i, z, c⟩) = ⟨n, v, d, i, z, c⟩ := by decide
  exact himage p.n p.v b p.d p.i p.z p.c

/-- Settles O16: the three bytes that RTI pulls are those that taking the exception stored. -/
theorem interruptThenRtiResumes : Obligations.InterruptThenRtiResumes := by
  intro s ret vector b hstack hwf
  have hstores := storesExactly_interruptSequence ret vector b s
  obtain ⟨ha, hx, hy, hsp, -, -, -, -, -, -, -, hplat, -⟩ := interruptSequence_registers ret vector b s
  generalize s.interruptSequence ret vector b = u at *
  have hsp1 : u.sp + 1 = s.sp - 2 := by rw [hsp]; bv_omega
  have hsp2 : u.sp + 2 = s.sp - 1 := by rw [hsp]; bv_omega
  have hsp3 : u.sp + 3 = s.sp := by rw [hsp]; bv_omega
  have himage : u.pulled .pull1 1 = pImage b s.p :=
    (congrArg (fun a => u.read .pull1 (stackAddr a)) hsp1).trans
      (hstores.read_eq _ hplat hwf (.tail _ (.tail _ (.head _))) (hstack _))
  have hlow : u.pulled .pull2 2 = lo ret :=
    (congrArg (fun a => u.read .pull2 (stackAddr a)) hsp2).trans
      (hstores.read_eq _ hplat hwf (.tail _ (.head _)) (hstack _))
  have hhigh : u.pulled .pull3 3 = hi ret :=
    (congrArg (fun a => u.read .pull3 (stackAddr a)) hsp3).trans (hstores.read_eq _ hplat hwf (.head _) (hstack _))
  refine ⟨u.returnFromInterrupt, rfl, ?pc, ?flags, ?iPrev, ha, hx, hy, hsp3⟩
  case pc => rw [State.returnFromInterrupt_pc, hhigh, hlow, join_hi_lo]
  case flags => rw [State.returnFromInterrupt_p, himage, statusOf_pImage]
  case iPrev => rw [State.returnFromInterrupt_iPrev, himage, statusOf_pImage]

/-- An IRQ collides with a BRK where one is signalled and I does not mask it (R271, log 13). -/
theorem brkCollision_eq_irq {s : State} (hduring : s.during = some .irq) (hi : s.p.i = false) :
    brkCollision s = some .irq := by
  simp [brkCollision, hduring, hi]

/-- Settles O14, from the interrupt that collides. -/
theorem brkCollidesWithAnInterrupt : Obligations.BrkCollidesWithAnInterrupt := by
  intro s
  refine ⟨fun hduring => ⟨Config.freeBit s.draws .collisionB, ?nmi⟩,
    fun hduring hi => ⟨Config.freeBit s.draws .collisionB, ?irq⟩⟩
  case nmi =>
    refine congrArg Host.Outcome.next (?_ : s.brk = _)
    simp only [State.brk, brkCollision_eq_nmi.mpr hduring]
    rfl
  case irq =>
    refine congrArg Host.Outcome.next (?_ : s.brk = _)
    simp only [State.brk, brkCollision_eq_irq hduring hi]
    rfl

/-! ### Reset -/

/-- Settles O10, with the values that `ResetDraw` gives. -/
theorem resetSequenceEffect : Obligations.ResetSequenceEffect :=
  fun _ => ⟨_, _, _, _, _, _, _, _, _, rfl⟩

/-- Settles O11, field by field. -/
theorem resetStateHoldsTheSpecsValues : Obligations.ResetStateHoldsTheSpecsValues :=
  ⟨rfl, rfl, rfl, rfl, rfl, State.reset_mem_wf, nofun⟩

/-! ### Halted runs -/

/-- What the environment can change in a halted CPU without asserting RESET: the two other lines, V, and what stands
in the schedule (R236, R260, log 12). -/
def SleptTo (s t : State) : Prop :=
  ∃ irq so v env during, t = { s with irqLine := irq, soLine := so, p := { s.p with v := v }, env := env,
                                      during := during }

theorem SleptTo.refl (s : State) : SleptTo s s := ⟨_, _, _, _, _, rfl⟩

theorem SleptTo.trans {s t u : State} (hst : SleptTo s t) (htu : SleptTo t u) : SleptTo s u := by
  obtain ⟨_, _, _, _, _, rfl⟩ := hst
  obtain ⟨_, _, _, _, _, rfl⟩ := htu
  exact ⟨_, _, _, _, _, rfl⟩

section
variable {s t : State}

theorem SleptTo.halted (h : SleptTo s t) (hhalted : s.halted = true) : t.halted = true := by
  obtain ⟨_, _, _, _, _, rfl⟩ := h
  exact hhalted

theorem SleptTo.resetLine (h : SleptTo s t) (hreset : s.resetLine = false) : t.resetLine = false := by
  obtain ⟨_, _, _, _, _, rfl⟩ := h
  exact hreset

/-- An event other than the assertion of RESET; an NMI is lost (R236, D15). -/
theorem sleptTo_applyEvent (hhalted : s.halted = true) (hreset : s.resetLine = false) {e : EnvEvent}
    (he : e ≠ .resetLine true) : SleptTo s (s.applyEvent e) := by
  cases e with
  | irqLine _ | soLine _ => exact ⟨_, _, _, _, _, rfl⟩
  | nmi => rw [applyEvent_nmi_of_halted hhalted]; exact .refl s
  | resetLine level =>
    have hlevel : level = s.resetLine := by
      rw [hreset]
      exact Bool.eq_false_iff.mpr fun hasserted => he (congrArg EnvEvent.resetLine hasserted)
    exact ⟨s.irqLine, s.soLine, s.p.v, s.env, s.during, by rw [hlevel]; rfl⟩

theorem sleptTo_foldl_applyEvent {es : List EnvEvent} (hhalted : s.halted = true) (hreset : s.resetLine = false)
    (hes : EnvEvent.resetLine true ∉ es) : SleptTo s (es.foldl State.applyEvent s) := by
  induction es generalizing s with
  | nil => exact .refl s
  | cons e es ih =>
    have hfirst := sleptTo_applyEvent hhalted hreset (List.ne_of_not_mem_cons hes).symm
    exact hfirst.trans (ih (hfirst.halted hhalted) (hfirst.resetLine hreset) (List.not_mem_of_not_mem_cons hes))

/-- The environment's events leave the schedule as it is (R260, log 5). -/
theorem foldl_applyEvent_env (es : List EnvEvent) (s : State) : (es.foldl State.applyEvent s).env = s.env := by
  obtain ⟨_, _, _, _, _, hs⟩ := foldl_applyEvent_frame es s
  rw [hs]

/-- The schedule hands out its first entry, where it has one (log 5). -/
theorem takeInput_env (s : State) : s.takeInput.env = s.env.tail := by
  cases henv : s.env with
  | nil => rw [takeInput_of_env_nil henv]; exact henv
  | cons e rest => rw [takeInput_of_env_cons henv]; exact foldl_applyEvent_env e.before _

theorem sleptTo_takeInput (hhalted : s.halted = true) (hreset : s.resetLine = false)
    (henv : ∀ e ∈ s.env, EnvEvent.resetLine true ∉ e.before) : SleptTo s s.takeInput := by
  cases hschedule : s.env with
  | nil => exact takeInput_of_env_nil hschedule ▸ ⟨_, _, _, _, _, rfl⟩
  | cons e rest =>
    have hquiet : EnvEvent.resetLine true ∉ e.before := henv e (by rw [hschedule]; exact .head _)
    obtain ⟨_, _, _, _, _, hevents⟩ := sleptTo_foldl_applyEvent (s := { s with env := rest }) hhalted hreset hquiet
    rw [takeInput_of_env_cons hschedule, hevents]
    exact ⟨_, _, _, _, _, rfl⟩

end

/-- A run whose first step answers `t` goes on as the run from `t`. -/
theorem run_succ_of_step {s t : State} (k : Nat) (h : step s = .next t) : core.run (k + 1) s = core.run k t := by
  have hcore : core.step s = .next t := h
  simp only [Host.Core.run, hcore]

/-- A halted CPU sleeps through every run without RESET, by induction on its length (R236, R278). -/
theorem run_sleptTo (k : Nat) {s : State} (hhalted : s.halted = true) (hreset : s.resetLine = false)
    (henv : ∀ e ∈ s.env, EnvEvent.resetLine true ∉ e.before) : ∃ t, core.run k s = .next t ∧ SleptTo s t := by
  induction k generalizing s with
  | zero => exact ⟨s, rfl, .refl s⟩
  | succ k ih =>
    have hinput := sleptTo_takeInput hhalted hreset henv
    have hstep : step s = .next s.takeInput :=
      cpuStep_of_halted (hinput.halted hhalted) (hinput.resetLine hreset)
    have hrest : ∀ e ∈ s.takeInput.env, EnvEvent.resetLine true ∉ e.before := fun e he =>
      henv e (List.mem_of_mem_tail (takeInput_env s ▸ he))
    obtain ⟨t, hrun, hslept⟩ := ih (hinput.halted hhalted) (hinput.resetLine hreset) hrest
    exact ⟨t, (run_succ_of_step k hstep).trans hrun, hinput.trans hslept⟩

/-- Settles O12, from what a halted CPU sleeps through. -/
theorem haltedRunsChangeNothing : Obligations.HaltedRunsChangeNothing := by
  intro k s hhalted hreset henv
  obtain ⟨t, hrun, hslept⟩ := run_sleptTo k hhalted hreset henv
  refine ⟨t, hrun, hslept.halted hhalted, ?_⟩
  obtain ⟨_, _, _, _, _, rfl⟩ := hslept
  exact ⟨rfl, rfl, rfl, rfl, rfl, rfl, rfl, rfl, rfl⟩

end Sys2Proof.Machine

/-! PROOFS. The writers of A, X, Y and S (10_state.md R22 to R25, R27): one equation says of every instruction which of
the four registers it keeps. -/

namespace Sys2Proof.Machine

/-- The four byte registers (R22 to R25). -/
structure Registers where
  a : Byte
  x : Byte
  y : Byte
  sp : Byte

def State.registers (s : State) : Registers := ⟨s.a, s.x, s.y, s.sp⟩

@[simp] theorem State.write_registers (a : Addr) (v : Byte) (s : State) : (s.write a v).registers = s.registers := by
  simp [State.registers]

@[simp] theorem State.push_registers (v : Byte) (s : State) :
    (s.push v).registers = { s.registers with sp := s.sp - 1 } := by
  simp [State.registers]

@[simp] theorem State.interruptSequence_registers (ret vector : Addr) (b : Bool) (s : State) :
    (s.interruptSequence ret vector b).registers = { s.registers with sp := s.sp - 1 - 1 - 1 } := by
  simp [State.registers, State.interruptSequence]

/-- A register after an instruction: the value found there if the instruction is one of its writers. -/
def writtenIf (writer : Bool) (before after : Byte) : Byte := if writer then after else before

theorem eq_before_of_writtenIf {writer : Bool} {before after : Byte} (h : after = writtenIf writer before after)
    (hno : writer = false) : after = before := by
  rwa [hno] at h

/-- Whether a mnemonic writes A in every form (R22). -/
def writesA : Mnemonic → Bool
  | .adc | .sbc | .and | .ora | .eor | .lda | .pla | .txa | .tya | .anc | .arr | .asr | .isc | .las | .lax | .rla | .rra
  | .slo | .sre | .xaa | .sbcUndoc => true
  | _ => false

/-- Whether a mnemonic writes X (R23). -/
def writesX : Mnemonic → Bool
  | .ldx | .tax | .tsx | .inx | .dex | .las | .lax | .sbx => true
  | _ => false

/-- Whether a mnemonic writes Y (R24). -/
def writesY : Mnemonic → Bool
  | .ldy | .tay | .iny | .dey => true
  | _ => false

/-- Whether a mnemonic writes S (R25, R27). -/
def writesS : Mnemonic → Bool
  | .txs | .las | .shs | .pha | .php | .pla | .plp | .jsr | .rts | .rti | .brk => true
  | _ => false

/-- Whether an operand is the accumulator, so that A is the place of the result (R102). -/
def isAccumulator : Operand → Bool
  | .accumulator => true
  | _ => false

theorem decide_mem_writersOfA (m : Mnemonic) : decide (m ∈ writersOfA) = writesA m := by cases m <;> rfl

theorem decide_mem_writersOfX (m : Mnemonic) : decide (m ∈ writersOfX) = writesX m := by cases m <;> rfl

theorem decide_mem_writersOfY (m : Mnemonic) : decide (m ∈ writersOfY) = writesY m := by cases m <;> rfl

theorem decide_mem_writersOfS (m : Mnemonic) : decide (m ∈ writersOfS) = writesS m := by cases m <;> rfl

theorem isAccumulator_eq_false {o : Operand} (h : o ≠ .accumulator) : isAccumulator o = false := by
  unfold isAccumulator
  split
  · exact absurd rfl h
  · rfl

/-- The registers after an instruction, where those that it may write are those of `after` (R22 to R25, R27). Like
`FlagColumn.result`, the equation `after = before.result i after` holds by computation for each instruction; for that
the writers are told by matching on the mnemonic, not by membership in the lists. -/
def Registers.result (i : Instr) (before after : Registers) : Registers where
  a := writtenIf (writesA i.mnemonic || isAccumulator i.operand) before.a after.a
  x := writtenIf (writesX i.mnemonic) before.x after.x
  y := writtenIf (writesY i.mnemonic) before.y after.y
  sp := writtenIf (writesS i.mnemonic) before.sp after.sp

/-- Between `s` and `t` only registers change of which `i` is a writer. -/
def KeepsRegisters (i : Instr) (s t : State) : Prop := t.registers = s.registers.result i t.registers

section
variable {i : Instr} {s t u : State}

/-- Stores have no part in the registers. -/
theorem KeepsRegisters.of_registers_eq (h : KeepsRegisters i s u) (heq : t.registers = u.registers) :
    KeepsRegisters i s t := by
  rw [KeepsRegisters, heq]
  exact h

theorem readClass_keepsRegisters {src : Source} {f : Byte → State → State} (h : readClass src f s = .next t)
    (hf : ∀ v, KeepsRegisters i s (f v s)) : KeepsRegisters i s t := by
  obtain ⟨-, rfl⟩ := readClass_eq_next.mp h
  exact hf _

theorem writeClass_keepsRegisters {m : MemMode} {v : Byte} (h : writeClass m v u = .next t)
    (hu : KeepsRegisters i s u) : KeepsRegisters i s t := by
  obtain ⟨-, rfl⟩ := writeClass_eq_next.mp h
  exact hu.of_registers_eq (State.write_registers _ v u)

theorem rmwClass_keepsRegisters {m : MemMode} {f : Byte → State → Byte × State} (h : rmwClass m f s = .next t)
    (hf : ∀ v, KeepsRegisters i s (f v s).2) : KeepsRegisters i s t := by
  obtain ⟨-, rfl⟩ := rmwClass_eq_next.mp h
  exact (hf _).of_registers_eq (State.write_registers _ _ _)

theorem unstableStore_keepsRegisters {use : UnstableUse} {m : MemMode} {v : Byte}
    (h : unstableStore use m v u = .next t) (hu : KeepsRegisters i s u) : KeepsRegisters i s t := by
  obtain ⟨-, hrule⟩ | ⟨-, hdraw⟩ := byUnstableUse_eq_next.mp h
  · exact writeClass_keepsRegisters hrule hu
  · exact writeClass_keepsRegisters hdraw hu

theorem unstableRead_keepsRegisters {use : UnstableUse} {src : Source} {f g : Byte → State → State}
    (h : byUnstableUse use (readClass src f s) (readClass src g s) = .next t)
    (hf : ∀ v, KeepsRegisters i s (f v s)) (hg : ∀ v, KeepsRegisters i s (g v s)) : KeepsRegisters i s t := by
  obtain ⟨-, hrule⟩ | ⟨-, hdraw⟩ := byUnstableUse_eq_next.mp h
  · exact readClass_keepsRegisters hrule hf
  · exact readClass_keepsRegisters hdraw hg

/-- An instruction that is a writer of S and of no other register may change S alone. -/
theorem KeepsRegisters.of_sp {sp : Byte} (hi : ∀ r : Registers, { r with sp := sp } = r.result i { r with sp := sp })
    (h : t.registers = { s.registers with sp := sp }) : KeepsRegisters i s t := by
  rw [KeepsRegisters, h]
  exact hi s.registers

end

/-- What every instruction does to the registers, class by class (R22 to R25, R27, R114). -/
theorem exec_keepsRegisters {i : Instr} {s t : State} (h : exec i s = .next t) : KeepsRegisters i s t := by
  unfold exec at h
  cases i with
  | brk =>
    cases h
    obtain ⟨vector, b, hbrk⟩ := s.brk_eq_interruptSequence
    exact .of_sp (fun _ => rfl) (hbrk ▸ State.interruptSequence_registers ..)
  | jsrAbs _ _ =>
    cases h
    exact .of_sp (fun _ => rfl) ((State.push_registers _ _).trans (by rw [State.push_registers]))
  | pha | php => cases h; exact .of_sp (fun _ => rfl) (State.push_registers _ s)
  | jmpAbs _ _ | jmpInd _ _ | rts | rti | cli | sei | plp
  | jam02 | jam12 | jam22 | jam32 | jam42 | jam52 | jam62 | jam72 | jam92 | jamB2 | jamD2 | jamF2
  | bpl _ | bmi _ | bvc _ | bvs _ | bcc _ | bcs _ | bne _ | beq _
  | clc | sec | clv | cld | sed | pla | dex | dey | inx | iny | tax | tay | tsx | txa | txs | tya
  | nop | nop1A | nop3A | nop5A | nop7A | nopDA | nopFA
  | aslA | lsrA | rolA | rorA => cases h; rfl
  | staZp _ | staZpX _ | staAbs _ _ | staAbsX _ _ | staAbsY _ _ | staIndX _ | staIndY _
  | stxZp _ | stxZpY _ | stxAbs _ _ | styZp _ | styZpX _ | styAbs _ _
  | saxZp _ | saxZpY _ | saxAbs _ _ | saxIndX _ => exact writeClass_keepsRegisters h rfl
  | aslZp _ | aslZpX _ | aslAbs _ _ | aslAbsX _ _ | lsrZp _ | lsrZpX _ | lsrAbs _ _ | lsrAbsX _ _
  | rolZp _ | rolZpX _ | rolAbs _ _ | rolAbsX _ _ | rorZp _ | rorZpX _ | rorAbs _ _ | rorAbsX _ _
  | decZp _ | decZpX _ | decAbs _ _ | decAbsX _ _ | incZp _ | incZpX _ | incAbs _ _ | incAbsX _ _
  | sloZp _ | sloZpX _ | sloAbs _ _ | sloAbsX _ _ | sloAbsY _ _ | sloIndX _ | sloIndY _
  | rlaZp _ | rlaZpX _ | rlaAbs _ _ | rlaAbsX _ _ | rlaAbsY _ _ | rlaIndX _ | rlaIndY _
  | sreZp _ | sreZpX _ | sreAbs _ _ | sreAbsX _ _ | sreAbsY _ _ | sreIndX _ | sreIndY _
  | rraZp _ | rraZpX _ | rraAbs _ _ | rraAbsX _ _ | rraAbsY _ _ | rraIndX _ | rraIndY _
  | dcpZp _ | dcpZpX _ | dcpAbs _ _ | dcpAbsX _ _ | dcpAbsY _ _ | dcpIndX _ | dcpIndY _
  | iscZp _ | iscZpX _ | iscAbs _ _ | iscAbsX _ _ | iscAbsY _ _ | iscIndX _ | iscIndY _ =>
    exact rmwClass_keepsRegisters h fun _ => rfl
  | xaaImm _ | laxImm _ | arrImm _ => exact unstableRead_keepsRegisters h (fun _ => rfl) fun _ => rfl
  | shaIndY _ | shaAbsY _ _ | shxAbsY _ _ | shyAbsX _ _ | shsAbsY _ _ => exact unstableStore_keepsRegisters h rfl
  | _ => exact readClass_keepsRegisters h fun _ => rfl

/-- Settles O50, register by register from what every instruction does to the four. -/
theorem registersHaveOnlyTheirWriters : Obligations.RegistersHaveOnlyTheirWriters := by
  intro i s t h
  have hkeeps := exec_keepsRegisters h
  refine ⟨fun hmnemonic hoperand => ?a, fun hmnemonic => ?x, fun hmnemonic => ?y, fun hmnemonic => ?sp⟩
  case a =>
    refine eq_before_of_writtenIf (congrArg Registers.a hkeeps) ?_
    rw [← decide_mem_writersOfA, decide_eq_false hmnemonic, isAccumulator_eq_false hoperand, Bool.or_self]
  case x =>
    refine eq_before_of_writtenIf (congrArg Registers.x hkeeps) ?_
    rw [← decide_mem_writersOfX, decide_eq_false hmnemonic]
  case y =>
    refine eq_before_of_writtenIf (congrArg Registers.y hkeeps) ?_
    rw [← decide_mem_writersOfY, decide_eq_false hmnemonic]
  case sp =>
    refine eq_before_of_writtenIf (congrArg Registers.sp hkeeps) ?_
    rw [← decide_mem_writersOfS, decide_eq_false hmnemonic]

end Sys2Proof.Machine
